-- ==== Sys2Proof/Word.lean ====
section
/-! DEFINITION. Word.lean: the words of the CORE: a register byte, a host command word, a register address field, and
`Binary64`, the spec's `Num`, the number type of samples, coefficients, accumulators and rates (00_scope R20). Its arithmetic is in
Machine/Binary64.lean. -/

namespace Sys2Proof

/-- A register-file entry or a command's data byte (10_state R41, 30_encoding R133). -/
abbrev Byte := BitVec 8

/-- A host command word, format HCW16 (30_encoding R130). -/
abbrev CmdWord := BitVec 16

/-- The register address field `A` of a command word (30_encoding R132). -/
abbrev RegAddr := BitVec 4

/-- The spec's `Num`: an IEEE 754 binary64 datum, as its 64 bits (00_scope R20). -/
structure Binary64 where
  bits : BitVec 64
  deriving DecidableEq, Repr, Inhabited

/-- 0.0, the construction value of every `Num` of the state (10_state R80). -/
def Binary64.zero : Binary64 := ⟨0⟩

end Sys2Proof
end

