-- ==== Sys2Proof/Syntax.lean ====
section
/-! DEFINITION. Syntax.lean: the sixteen host commands (30_encoding R138), one constructor per row of the opcode table. -/

namespace Sys2Proof

/-- The "instructions" of the CORE are its host commands (00_scope R3): fourteen register writes, one read, one sample step. -/
inductive Instr where
  | wrAfine (d : Byte)
  | wrAcoarse (d : Byte)
  | wrBfine (d : Byte)
  | wrBcoarse (d : Byte)
  | wrCfine (d : Byte)
  | wrCcoarse (d : Byte)
  | wrNoise (d : Byte)
  | wrMixer (d : Byte)
  | wrAvol (d : Byte)
  | wrBvol (d : Byte)
  | wrCvol (d : Byte)
  | wrEfine (d : Byte)
  | wrEcoarse (d : Byte)
  | wrEshape (d : Byte)
  | rd (a : RegAddr)
  | step
  deriving DecidableEq, Repr

end Sys2Proof
end

