-- ==== Sys2Proof/WellFormed.lean ====
section
/-! DEFINITION. WellFormed.lean: which terms of `Instr` are commands of the opcode map. A write carries its address in its
constructor and every data byte is legal (30_encoding R133, R134); a read must name an implemented register (R132). -/

namespace Sys2Proof

/-- The one check of the opcode map that the syntax does not already make: `RD` needs `A ≤ 13` (30_encoding R132, R138). -/
def Instr.wellFormed : Instr → Bool
  | .rd a => decide (a.toNat ≤ 13)
  | .wrAfine _ => true
  | .wrAcoarse _ => true
  | .wrBfine _ => true
  | .wrBcoarse _ => true
  | .wrCfine _ => true
  | .wrCcoarse _ => true
  | .wrNoise _ => true
  | .wrMixer _ => true
  | .wrAvol _ => true
  | .wrBvol _ => true
  | .wrCvol _ => true
  | .wrEfine _ => true
  | .wrEcoarse _ => true
  | .wrEshape _ => true
  | .step => true

end Sys2Proof
end

