-- ==== Sys2Proof/Decode.lean ====
section
/-! DEFINITION. Decode.lean: from a command word to a command, total on all 16-bit words and rejecting by name (30_encoding
R130 to R141); then the encoder, and the opcode map of R138 as a list of rows. -/

namespace Sys2Proof

/-- Why a word is reserved: the four kinds of 30_encoding R139. -/
inductive DecodeError where
  /-- `CLS` is 0x0 or 0x4 to 0xF. -/
  | reservedClass
  /-- `WR` or `RD` with `A` 14 or 15. -/
  | reservedAddress
  /-- `RD` with `D` not 0. -/
  | readWithData
  /-- `STEP` with `w[11:0]` not 0. -/
  | stepWithOperands
  deriving DecidableEq, Repr

/-- `CLS = w[15:12]` (30_encoding R130). -/
def clsField (w : CmdWord) : BitVec 4 := w.extractLsb' 12 4

/-- `A = w[11:8]` (30_encoding R130, R132). -/
def addrField (w : CmdWord) : RegAddr := w.extractLsb' 8 4

/-- `D = w[7:0]` (30_encoding R130, R133). -/
def dataField (w : CmdWord) : Byte := w.extractLsb' 0 8

/-- The write command of address `a`; 14 and 15 are reserved (30_encoding R134, R139). -/
def decodeWrite (a : RegAddr) (d : Byte) : Except DecodeError Instr :=
  match a.toNat with
  | 0 => .ok (.wrAfine d)
  | 1 => .ok (.wrAcoarse d)
  | 2 => .ok (.wrBfine d)
  | 3 => .ok (.wrBcoarse d)
  | 4 => .ok (.wrCfine d)
  | 5 => .ok (.wrCcoarse d)
  | 6 => .ok (.wrNoise d)
  | 7 => .ok (.wrMixer d)
  | 8 => .ok (.wrAvol d)
  | 9 => .ok (.wrBvol d)
  | 10 => .ok (.wrCvol d)
  | 11 => .ok (.wrEfine d)
  | 12 => .ok (.wrEcoarse d)
  | 13 => .ok (.wrEshape d)
  | _ => .error .reservedAddress

/-- `RD` (30_encoding R135): an implemented address and no data. -/
def decodeRead (a : RegAddr) (d : Byte) : Except DecodeError Instr :=
  if 13 < a.toNat then .error .reservedAddress
  else if d = 0 then .ok (.rd a)
  else .error .readWithData

/-- `STEP` (30_encoding R136): the word 0x3000 exactly. -/
def decodeStep (a : RegAddr) (d : Byte) : Except DecodeError Instr :=
  if a = 0 ∧ d = 0 then .ok .step else .error .stepWithOperands

/-- The decoder (30_encoding R131, R138, R139). -/
def decode (w : CmdWord) : Except DecodeError Instr :=
  match (clsField w).toNat with
  | 1 => decodeWrite (addrField w) (dataField w)
  | 2 => decodeRead (addrField w) (dataField w)
  | 3 => decodeStep (addrField w) (dataField w)
  | _ => .error .reservedClass

/-- A command word from its three fields (30_encoding R130). -/
def packWord (cls a : BitVec 4) (d : Byte) : CmdWord := cls ++ a ++ d

/-- The encoder (30_encoding R134 to R136). -/
def encode : Instr → CmdWord
  | .wrAfine d => packWord 1 0 d
  | .wrAcoarse d => packWord 1 1 d
  | .wrBfine d => packWord 1 2 d
  | .wrBcoarse d => packWord 1 3 d
  | .wrCfine d => packWord 1 4 d
  | .wrCcoarse d => packWord 1 5 d
  | .wrNoise d => packWord 1 6 d
  | .wrMixer d => packWord 1 7 d
  | .wrAvol d => packWord 1 8 d
  | .wrBvol d => packWord 1 9 d
  | .wrCvol d => packWord 1 10 d
  | .wrEfine d => packWord 1 11 d
  | .wrEcoarse d => packWord 1 12 d
  | .wrEshape d => packWord 1 13 d
  | .rd a => packWord 2 a 0
  | .step => packWord 3 0 0

/-- The command read from an instruction of the opcode table whose bits are `w` (bit 0 the least significant bit of its one
16-bit word); bits at and above `nbits` are 0. -/
def decodeTableWord (nbits w : Nat) : Option Instr :=
  match decode (BitVec.ofNat 16 (w % 2 ^ nbits)) with
  | .ok i => some i
  | .error _ => none

/-- One row of the opcode map: a word belongs to it when `w & mask = pattern`. -/
structure OpcodeRow where
  mnemonic : String
  pattern : CmdWord
  mask : CmdWord
  deriving DecidableEq, Repr

/-- The opcode map (30_encoding R138). -/
def opcodeMap : List OpcodeRow :=
  [ ⟨"WR_AFINE", 0x1000, 0xFF00⟩, ⟨"WR_ACOARSE", 0x1100, 0xFF00⟩, ⟨"WR_BFINE", 0x1200, 0xFF00⟩,
    ⟨"WR_BCOARSE", 0x1300, 0xFF00⟩, ⟨"WR_CFINE", 0x1400, 0xFF00⟩, ⟨"WR_CCOARSE", 0x1500, 0xFF00⟩,
    ⟨"WR_NOISE", 0x1600, 0xFF00⟩, ⟨"WR_MIXER", 0x1700, 0xFF00⟩, ⟨"WR_AVOL", 0x1800, 0xFF00⟩,
    ⟨"WR_BVOL", 0x1900, 0xFF00⟩, ⟨"WR_CVOL", 0x1A00, 0xFF00⟩, ⟨"WR_EFINE", 0x1B00, 0xFF00⟩,
    ⟨"WR_ECOARSE", 0x1C00, 0xFF00⟩, ⟨"WR_ESHAPE", 0x1D00, 0xFF00⟩, ⟨"RD", 0x2000, 0xF0FF⟩,
    ⟨"STEP", 0x3000, 0xFFFF⟩ ]

/-- A word matches a row when `(w & mask) = match`; `RD` also needs `w[11:8] ≤ 13` (30_encoding R138). -/
def rowMatches (r : OpcodeRow) (w : CmdWord) : Bool :=
  decide (w &&& r.mask = r.pattern) && (decide (r.mnemonic ≠ "RD") || decide ((addrField w).toNat ≤ 13))

/-- The row's name of a command, as 30_encoding R138 spells it. -/
def mnemonic : Instr → String
  | .wrAfine _ => "WR_AFINE"
  | .wrAcoarse _ => "WR_ACOARSE"
  | .wrBfine _ => "WR_BFINE"
  | .wrBcoarse _ => "WR_BCOARSE"
  | .wrCfine _ => "WR_CFINE"
  | .wrCcoarse _ => "WR_CCOARSE"
  | .wrNoise _ => "WR_NOISE"
  | .wrMixer _ => "WR_MIXER"
  | .wrAvol _ => "WR_AVOL"
  | .wrBvol _ => "WR_BVOL"
  | .wrCvol _ => "WR_CVOL"
  | .wrEfine _ => "WR_EFINE"
  | .wrEcoarse _ => "WR_ECOARSE"
  | .wrEshape _ => "WR_ESHAPE"
  | .rd _ => "RD"
  | .step => "STEP"

end Sys2Proof
end

