-- ==== Sys2Proof/Config.lean ====
section
/-! DEFINITION. Config.lean: the configuration of one instance (00_scope R7): the record the host constructs with
(`RawConfig`), the validated configuration an instance keeps (`Config`), the construction errors (60_exceptions R442), and the
free values of the kernel generator (93_implementation_defined I10). -/

namespace Sys2Proof

/-- `LFSR_FB_POS` (41_tone_noise R226). -/
inductive LfsrFbPos where
  | pos15
  | pos16
  deriving DecidableEq, Repr

/-- `FRAME_REMAINDER` (44_clock_step R325). -/
inductive FrameRemainder where
  | drop
  | keep
  deriving DecidableEq, Repr

/-- `INTERP_FORM` (45_interpolator R362). -/
inductive InterpForm where
  | catmullRom
  | bourke
  deriving DecidableEq, Repr

/-- The envelope behaviour class `env.offset`, 0 to 5 (10_state R48, 42_envelope R251). -/
inductive EnvClass where
  | class0
  | class1
  | class2
  | class3
  | class4
  | class5
  deriving DecidableEq, Repr

/-- The level `env.transient`, 0 or 31 (10_state R48). -/
inductive Transient where
  | low
  | high
  deriving DecidableEq, Repr

/-- One row of `ENV_CLASS`: the class of a shape and its transient, where the table gives one (42_envelope R251). -/
structure EnvRow where
  offset : EnvClass
  transient : Option Transient
  deriving DecidableEq, Repr

/-- `INTERP_FORM` as a host may pass it: one of the two forms, or something else (60_exceptions R442, check 2). -/
inductive RawInterpForm where
  | catmullRom
  | bourke
  | other
  deriving DecidableEq, Repr

/-- The configuration record `cfg` a host constructs with (00_scope R7), before validation. -/
structure RawConfig where
  chipFreq : Binary64
  outRate : Binary64
  m : Nat
  frameFreq : Binary64
  taps : Nat
  /-- The supplied kernel `H`; with none it is generated (46_fir R381). -/
  kernel : Option (List Binary64)
  firCutoff : Binary64
  /-- `FIR_RATE`; with none it is `OUT_RATE × M` (00_scope R7). -/
  firRate : Option Binary64
  biasN : Nat
  biasAtten : Binary64
  pan : Vector Binary64 3
  dac : Vector Binary64 32
  noiseMask : Int
  lfsrFbPos : Int
  /-- `ENV_CLASS`: for each shape its offset and its transient, or none for the table's dash. -/
  envClass : Vector (Int × Option Int) 16
  frameRemainder : FrameRemainder
  interpForm : RawInterpForm
  deriving DecidableEq, Repr

/-- The configuration of a constructed instance, fixed for its lifetime (00_scope R7, 70_reset R491 steps 2 and 3). Both audio
channels share `h`, `biasN` and `biasAtten` (R8). -/
structure Config where
  chipFreq : Binary64
  outRate : Binary64
  m : Nat
  frameFreq : Binary64
  taps : Nat
  /-- The kernel `H[0..L-1]`, supplied or generated; `h[0]` weights the newest sample (46_fir R381). -/
  h : List Binary64
  biasN : Nat
  biasAtten : Binary64
  pan : Vector Binary64 3
  dac : Vector Binary64 32
  noiseMask : Byte
  lfsrFbPos : LfsrFbPos
  envClass : Vector EnvRow 16
  frameRemainder : FrameRemainder
  interpForm : InterpForm
  deriving DecidableEq, Repr

/-- The construction errors, in the order of their checks (60_exceptions R442). -/
inductive ConfigError where
  | nonfinite
  | paramDomain
  | tapsZero
  | mZero
  | rateNonpositive
  | negativeFreq
  | clockTooFast
  | kernelLength
  | genL1
  | cutoffNonpositive
  | cutoffNyquist
  | biasNZero
  | attenZero
  | dacZeroEntries
  deriving DecidableEq, Repr

/-- The code number of a construction error (60_exceptions R442). -/
def ConfigError.code : ConfigError → Nat
  | .nonfinite => 1
  | .paramDomain => 2
  | .tapsZero => 3
  | .mZero => 4
  | .rateNonpositive => 5
  | .negativeFreq => 6
  | .clockTooFast => 7
  | .kernelLength => 8
  | .genL1 => 9
  | .cutoffNonpositive => 10
  | .cutoffNyquist => 11
  | .biasNZero => 12
  | .attenZero => 13
  | .dacZeroEntries => 14

/-- The library cosine of the kernel generator: a free value, nothing is known of it (93 I10, assumption log 2). -/
opaque Config.libCos : Binary64 → Binary64

/-- The library sine of the kernel generator: a free value (93 I10, assumption log 2). -/
opaque Config.libSin : Binary64 → Binary64

/-- The constant π of the kernel generator: a free value (93 I10, assumption log 2). -/
opaque Config.libPi : Binary64

end Sys2Proof
end

