-- ==== Sys2Proof/Machine/Arith.lean ====
section
/-! DEFINITION. Machine/Arith.lean: the arithmetic a `Num` formula uses (00_scope R15). The accumulators, the mixer sum and the
filters are written once over it. The machine runs them over binary64 (Machine/Binary64.lean, R20); the rules of the spec that
hold "in exact arithmetic" are about the same definitions over the rationals (93 I12). -/

namespace Sys2Proof

/-- The operations of 00_scope R15: a literal as a ratio of integers, the four operations, and strict comparison. -/
structure Arith (α : Type) where
  /-- The value of the literal `n / d`, rounded once (R20); integers are exact (R15). -/
  ratio : Int → Nat → α
  add : α → α → α
  sub : α → α → α
  mul : α → α → α
  div : α → α → α
  /-- `a < b`. -/
  lt : α → α → Bool

namespace Arith

variable {α : Type} (A : Arith α)

/-- An integer used in a `Num` expression (00_scope R15). -/
def int (k : Int) : α := A.ratio k 1

/-- `max(a, b)` of `Num` values (43_mixer_dac R292). -/
def max (a b : α) : α := if A.lt a b then b else a

/-- `min(a, b)` of `Num` values (43_mixer_dac R292). -/
def min (a b : α) : α := if A.lt b a then b else a

end Arith

/-- Exact arithmetic, the alternative instance of `Num` that 00_scope R20 allows for proofs. -/
def exactArith : Arith ℚ where
  ratio n d := (n : ℚ) / (d : ℚ)
  add a b := a + b
  sub a b := a - b
  mul a b := a * b
  div a b := a / b
  lt a b := decide (a < b)

end Sys2Proof
end

