-- ==== Sys2Proof/Machine/Binary64.lean ====
section
/-! DEFINITION. Machine/Binary64.lean: IEEE 754-2008 binary64 arithmetic, round to nearest, ties to even, no traps, subnormals
kept (00_scope R20). Every finite datum is an integer number of units of 2^-1074; an operation computes its exact result in
those units and rounds once. There is one NaN result (assumption log 1). The operations are irreducible, so that `rfl` and `simp` do
not run them; the kernel runs them on numerals. -/

namespace Sys2Proof.Binary64

/-- The sign bit. -/
def sign (a : Binary64) : Bool := a.bits.msb

/-- The biased exponent field. -/
def expField (a : Binary64) : Nat := a.bits.toNat / 2 ^ 52 % 2 ^ 11

/-- The fraction field. -/
def fracField (a : Binary64) : Nat := a.bits.toNat % 2 ^ 52

/-- Neither infinite nor NaN. -/
def isFinite (a : Binary64) : Bool := decide (a.expField ≠ 2047)

/-- Infinite, of either sign. -/
def isInf (a : Binary64) : Bool := decide (a.expField = 2047) && decide (a.fracField = 0)

/-- Not a number. -/
def isNaN (a : Binary64) : Bool := decide (a.expField = 2047) && decide (a.fracField ≠ 0)

/-- `2 ^ k`, written so that the elaborator, which evaluates no power with an exponent above 256, can run the arithmetic on
numerals. -/
def pow2 (k : Nat) : Nat := 2 ^ (k % 256) * (2 ^ 256) ^ (k / 256)

/-- The magnitude in units of 2^-1074: the fraction of a subnormal, the fraction with its leading one of a normal number. (Of an
infinity it is 2^2098, above every finite magnitude, which is what `lt` needs.) -/
def mag (a : Binary64) : Nat :=
  if a.expField = 0 then a.fracField else (a.fracField + 2 ^ 52) * pow2 (a.expField - 1)

/-- The signed value in units of 2^-1074. -/
def units (a : Binary64) : Int := if a.sign then -(a.mag : Int) else (a.mag : Int)

/-- The value of a finite datum. -/
def toRat (a : Binary64) : ℚ := (a.units : ℚ) / 2 ^ 1074

/-- The one NaN the operations give (assumption log 1). -/
def nan : Binary64 := ⟨0x7FF8000000000000⟩

/-- The datum with sign `neg` and the other 63 bits `p`. -/
def ofSignBits (neg : Bool) (p : Nat) : Binary64 := ⟨BitVec.ofNat 64 ((if neg then 2 ^ 63 else 0) + p)⟩

/-- A zero of the given sign. -/
def zeroOf (neg : Bool) : Binary64 := ofSignBits neg 0

/-- An infinity of the given sign. -/
def infOf (neg : Bool) : Binary64 := ofSignBits neg (2047 * 2 ^ 52)

/-- `n / e` to the nearest integer, ties to even (00_scope R20). -/
def divNearestEven (n e : Nat) : Nat :=
  let r := n / e
  let rem := n % e
  if e < 2 * rem ∨ (2 * rem = e ∧ r % 2 = 1) then r + 1 else r

/-- The exponent of the spacing of the data at the magnitude `q` (in units of 2^-1074). -/
def spacing (q : Nat) : Nat := if q < 2 ^ 53 then 0 else Nat.log2 q - 52

/-- The low 63 bits of the datum nearest to the magnitude `n / d` units: with spacing 2^k the rounded significand `r` has the bits
`k * 2^52 + r`, a carry out of the significand included. -/
def roundBits (n d : Nat) : Nat :=
  let k := spacing (n / d)
  k * 2 ^ 52 + divNearestEven n (d * pow2 k)

/-- The datum of sign `neg` nearest to the magnitude `n / d` units; infinity where it overflows (assumption log 15). -/
def ofMag (neg : Bool) (n d : Nat) : Binary64 :=
  let p := roundBits n d
  if p < 2047 * 2 ^ 52 then ofSignBits neg p else infOf neg

/-- The literal or integer `n / d` (00_scope R15, R20). -/
@[irreducible] def ratio (n : Int) (d : Nat) : Binary64 := ofMag (decide (n < 0)) (n.natAbs * pow2 1074) d

/-- The datum with its sign bit flipped. -/
def neg (a : Binary64) : Binary64 := ⟨a.bits ^^^ 0x8000000000000000⟩

/-- Addition. An exact zero sum is +0.0, unless both addends are negative (zeros). -/
@[irreducible] def add (a b : Binary64) : Binary64 :=
  if a.isNaN || b.isNaN then nan
  else if a.isInf then (if b.isInf && (a.sign != b.sign) then nan else a)
  else if b.isInf then b
  else
    let z := a.units + b.units
    if z = 0 then zeroOf (a.sign && b.sign) else ofMag (decide (z < 0)) z.natAbs 1

/-- Subtraction. -/
@[irreducible] def sub (a b : Binary64) : Binary64 := add a b.neg

/-- Multiplication. -/
@[irreducible] def mul (a b : Binary64) : Binary64 :=
  let s := a.sign != b.sign
  if a.isNaN || b.isNaN then nan
  else if a.isInf || b.isInf then (if a.mag = 0 ∨ b.mag = 0 then nan else infOf s)
  else ofMag s (a.mag * b.mag) (pow2 1074)

/-- Division. -/
@[irreducible] def div (a b : Binary64) : Binary64 :=
  let s := a.sign != b.sign
  if a.isNaN || b.isNaN then nan
  else if a.isInf then (if b.isInf then nan else infOf s)
  else if b.isInf then zeroOf s
  else if b.mag = 0 then (if a.mag = 0 then nan else infOf s)
  else ofMag s (a.mag * pow2 1074) b.mag

/-- `a < b`; false where either is NaN. -/
@[irreducible] def lt (a b : Binary64) : Bool := !a.isNaN && !b.isNaN && decide (a.units < b.units)

/-- `a ≤ b`; false where either is NaN. -/
def le (a b : Binary64) : Bool := !a.isNaN && !b.isNaN && decide (a.units ≤ b.units)

end Sys2Proof.Binary64

namespace Sys2Proof

/-- The arithmetic of the machine (00_scope R20). -/
def binary64 : Arith Binary64 where
  ratio := Binary64.ratio
  add := Binary64.add
  sub := Binary64.sub
  mul := Binary64.mul
  div := Binary64.div
  lt := Binary64.lt

end Sys2Proof
end

