-- ==== Sys2Proof/Machine/Params.lean ====
section
/-! DEFINITION. Machine/Params.lean: what the configuration fixes and the rules derive from it: the kernel length, the two
increments, the classification table of 42_envelope R251, and the standard test configuration T of 95_test_vectors, which the
reset state holds (assumption log 3). -/

namespace Sys2Proof

/-- The kernel length `L = TAPS × M` (46_fir R380). -/
def kernelLength (c : Config) : Nat := c.taps * c.m

/-- The clock increment of one oversample iteration, `CHIP_FREQ * 0.125 / OUT_RATE / M`, in that order (44_clock_step R321). -/
def clockStepOf {α : Type} (A : Arith α) (chipFreq outRate : α) (m : Nat) : α :=
  A.div (A.div (A.mul chipFreq (A.ratio 1 8)) outRate) (A.int m)

/-- The frame increment of one `STEP`, `FRAME_FREQ / OUT_RATE` (44_clock_step R323). -/
def frameStepOf {α : Type} (A : Arith α) (frameFreq outRate : α) : α := A.div frameFreq outRate

/-- The source's classification table: class and transient of each shape (42_envelope R251). -/
def envClassTable : Vector EnvRow 16 :=
  #v[⟨.class0, some .low⟩, ⟨.class0, some .low⟩, ⟨.class0, some .low⟩, ⟨.class0, some .low⟩,
     ⟨.class1, some .low⟩, ⟨.class1, some .low⟩, ⟨.class1, some .low⟩, ⟨.class1, some .low⟩,
     ⟨.class2, none⟩, ⟨.class0, some .low⟩, ⟨.class4, none⟩, ⟨.class0, some .high⟩,
     ⟨.class3, none⟩, ⟨.class1, some .high⟩, ⟨.class5, none⟩, ⟨.class1, some .low⟩]

/-- `DAC_TEST` of 95_test_vectors: 0 at 0 and 1, `k / 32` above. A test table only: the source gives no curve (43 R290). -/
def dacTest : Vector Binary64 32 :=
  Vector.ofFn fun k => if k.val < 2 then Binary64.zero else binary64.ratio k.val 32

/-- The standard test configuration T of 95_test_vectors, with the decided parameters of 00_scope R7 (assumption log 3). -/
def standardConfig : Config where
  chipFreq := binary64.int 8
  outRate := binary64.int 1
  m := 1
  frameFreq := Binary64.zero
  taps := 1
  h := [binary64.int 1]
  biasN := 2
  biasAtten := binary64.int 1
  pan := #v[binary64.ratio 1 4, binary64.ratio 1 2, binary64.ratio 3 4]
  dac := dacTest
  noiseMask := 0xFF
  lfsrFbPos := .pos16
  envClass := envClassTable
  frameRemainder := .drop
  interpForm := .catmullRom

end Sys2Proof
end

