-- ==== Sys2Proof/Machine/State.lean ====
section
/-! DEFINITION. Machine/State.lean: the state of one CORE instance (10_state), as plain data; the host's moves and the CORE's
answers (60_exceptions R470); faults and refusals; and the state after construction (10_state R80). Bits are `Bool` (00_scope
R16), integers are `Nat` or `Fin` where the rule gives the range as part of the field (R14, assumption log 13). -/

namespace Sys2Proof.Machine

/-- A pair of values, one for each audio channel L and R (10_state R52 to R54). -/
structure Sides (α : Type) where
  left : α
  right : α
  deriving DecidableEq, Repr

/-- The oscillator of a tone channel (10_state R44). -/
structure Tone where
  counter : Nat
  port : Bool
  period : Nat
  deriving DecidableEq, Repr

/-- The mixer fields of a tone channel (10_state R45): true = 1. `envFlag` is 0 when the channel is envelope-controlled. -/
structure Chan where
  volume : Fin 16
  toneOff : Bool
  noiseOff : Bool
  envFlag : Bool
  deriving DecidableEq, Repr

/-- The noise channel (10_state R47). -/
structure Noise where
  counter : Nat
  period : Nat
  lfsr : BitVec 17
  deriving DecidableEq, Repr

/-- The envelope (10_state R48). -/
structure Env where
  counter : Nat
  period : Nat
  shape : Fin 16
  offset : EnvClass
  strobe : Bool
  step : Fin 32
  transient : Transient
  store : Fin 16
  deriving DecidableEq, Repr

/-- The chip clock (10_state R49): its frequency and scale are configuration. -/
structure Clock where
  cycle : Binary64
  step : Binary64
  deriving DecidableEq, Repr

/-- The installed frame routine (10_state R50, R80): none, which acts as a no-op, or the host's, whose moves the host makes. -/
inductive Routine where
  | noop
  | host
  deriving DecidableEq, Repr

/-- The frame scheduler (10_state R50): its frequency is configuration. -/
structure Frame where
  cycle : Binary64
  routine : Routine
  deriving DecidableEq, Repr

/-- An interpolator history, `h0` the oldest entry and `h3` the newest (10_state R52). -/
structure Interp (α : Type) where
  h0 : α
  h1 : α
  h2 : α
  h3 : α
  deriving DecidableEq, Repr

/-- A FIR state: the buffer of `2L` entries and the block index (10_state R53). -/
structure Fir (α : Type) where
  buf : List α
  idx : Nat
  deriving DecidableEq, Repr

/-- A bias-filter state: the buffer of `BIAS_N` entries, the running sum and the index (10_state R54). -/
structure Bias (α : Type) where
  buf : List α
  sum : α
  idx : Nat
  deriving DecidableEq, Repr

/-- Why a command is refused (60_exceptions R444). -/
inductive RefuseReason where
  /-- A reserved command word (30_encoding R139). -/
  | reservedCommand
  /-- A `STEP` while the frame routine runs (60_exceptions R445). -/
  | reentrantStep
  deriving DecidableEq, Repr

/-- What the CORE gives back to the host for a move (30_encoding R137, 60_exceptions R454, R470). -/
inductive Response where
  /-- A `WR_*` returns nothing; so does construction, beyond the instance itself. -/
  | nothing
  /-- `RD` returns one byte. -/
  | byte (v : Byte)
  /-- `STEP` returns one pair. -/
  | sample (left right : Binary64)
  /-- `STEP` calls the host's frame routine, the CORE's only call out. -/
  | frameCall
  /-- The command was refused. -/
  | refusal (reason : RefuseReason)
  deriving DecidableEq, Repr

/-- A move of the host (60_exceptions R470). -/
inductive HostEvent where
  /-- A command word (30_encoding R130). -/
  | command (w : CmdWord)
  /-- The end of the frame routine, which has no encoding (60_exceptions R456). -/
  | frameReturn
  /-- Construction of a new instance, which replaces the present one (70_reset R490). -/
  | construct (cfg : RawConfig) (routine : Routine)
  deriving DecidableEq, Repr

/-- What stops the machine. -/
inductive Fault where
  /-- Raised by a `construct` move whose configuration fails a check: no instance is created (60_exceptions R442, R443). Safe. -/
  | configError (e : ConfigError)
  deriving DecidableEq, Repr

/-- What the model gives no meaning. -/
inductive Refusal where
  /-- Raised by an arm of `exec` without a meaning: none is left. Safe. -/
  | notModelled (mnemonic : String)
  /-- Raised by a FRAME_RETURN move while no frame routine runs, which no rule describes (assumption log 8). Safe. -/
  | frameReturnOutsideRoutine
  deriving DecidableEq, Repr

/-- One CORE instance (10_state) with the host's pending moves and the last answer. -/
structure State where
  /-- The configuration, fixed at construction (00_scope R7). -/
  cfg : Config
  /-- The register file (10_state R41, R42). -/
  x : Vector Byte 14
  tone : Vector Tone 3
  chan : Vector Chan 3
  noise : Noise
  env : Env
  clock : Clock
  frame : Frame
  interp : Sides (Interp Binary64)
  fir : Sides (Fir Binary64)
  bias : Sides (Bias Binary64)
  /-- The whole-state refusal mark (10_state R62). -/
  refused : Bool
  /-- The host's frame routine is running inside a `STEP` (10_state R62, 60_exceptions R454). -/
  inFrameRoutine : Bool
  /-- The model's own: the host's moves not yet taken, the next one first (assumption log 4). -/
  inputs : List HostEvent
  /-- The model's own: what the CORE gave back for the last move (assumption log 7). -/
  response : Response
  deriving DecidableEq, Repr

/-- The state after construction with a valid configuration (10_state R80, 70_reset R491). -/
def State.initial (c : Config) (r : Routine) : State where
  cfg := c
  x := Vector.replicate 14 0
  tone := Vector.replicate 3 { counter := 0, port := false, period := 1 }
  chan := Vector.replicate 3 { volume := 0, toneOff := false, noiseOff := false, envFlag := true }
  noise := { counter := 0, period := 1, lfsr := 1 }
  env := { counter := 0, period := 1, shape := 0, offset := .class0, strobe := false, step := 0, transient := .low, store := 0 }
  clock := { cycle := Binary64.zero, step := clockStepOf binary64 c.chipFreq c.outRate c.m }
  frame := { cycle := Binary64.zero, routine := r }
  interp :=
    { left := { h0 := Binary64.zero, h1 := Binary64.zero, h2 := Binary64.zero, h3 := Binary64.zero }
      right := { h0 := Binary64.zero, h1 := Binary64.zero, h2 := Binary64.zero, h3 := Binary64.zero } }
  fir :=
    { left := { buf := List.replicate (2 * kernelLength c) Binary64.zero, idx := 0 }
      right := { buf := List.replicate (2 * kernelLength c) Binary64.zero, idx := 0 } }
  bias :=
    { left := { buf := List.replicate c.biasN Binary64.zero, sum := Binary64.zero, idx := 0 }
      right := { buf := List.replicate c.biasN Binary64.zero, sum := Binary64.zero, idx := 0 } }
  refused := false
  inFrameRoutine := false
  inputs := []
  response := .nothing

/-- The machine right after reset: construction with the configuration T and no frame routine (assumption log 3). -/
def State.reset : State := State.initial standardConfig .noop

end Sys2Proof.Machine
end

