-- ==== Sys2Proof/Machine/Fir.lean ====
section
/-! DEFINITION. Machine/Fir.lean: the decimation FIR (46_fir): FIR_STEP at run time, and FIR_DESIGN, which builds the kernel at
construction. A read outside a buffer, which no rule allows (46_fir R385), gives 0.0 (assumption log 12). -/

namespace Sys2Proof.Machine

/-- The write loop of FIR_STEP: each sample at `p` and its mirror at `p + len`, `p` rising (46_fir R385). -/
def firWrite {α : Type} (len : Nat) : Nat → List α → List α → List α
  | _, [], buf => buf
  | p, v :: vs, buf => firWrite len (p + 1) vs ((buf.set p v).set (p + len) v)

/-- The sum `y <- y + H[k] * buf[base + L - 1 - k]`, `k` from 0 to `L - 1`, from 0.0 (46_fir R385). -/
def firConvolve {α : Type} (A : Arith α) (len base : Nat) (h buf : List α) : α :=
  (List.range len).foldl
    (fun y k => A.add y (A.mul (h.getD k (A.int 0)) (buf.getD (base + len - 1 - k) (A.int 0)))) (A.int 0)

/-- FIR_STEP: write the block, advance the index, convolve from the oldest block (46_fir R385, R386). -/
def firStep {α : Type} (A : Arith α) (taps m : Nat) (h : List α) (f : Fir α) (xs : List α) : Fir α × α :=
  let len := taps * m
  let buf := firWrite len (f.idx * m) xs f.buf
  let idx := (f.idx + 1) % taps
  ({ buf := buf, idx := idx }, firConvolve A len (idx * m) h buf)

/-- The Blackman-Harris window value at tap `n` of `len` (46_fir R382). -/
def firWindow (len n : Nat) : Binary64 :=
  let A := binary64
  let angle (k : Int) : Binary64 := A.div (A.mul (A.mul (A.int k) Config.libPi) (A.int n)) (A.int ((len : Int) - 1))
  A.sub
    (A.add
      (A.sub (A.ratio 35875 100000) (A.mul (A.ratio 48829 100000) (Config.libCos (angle 2))))
      (A.mul (A.ratio 14128 100000) (Config.libCos (angle 4))))
    (A.mul (A.ratio 1168 100000) (Config.libCos (angle 6)))

/-- The sinc value at tap `n` of `len`, centred on `floor(len / 2)` (46_fir R382). -/
def firSinc (len : Nat) (fc : Binary64) (n : Nat) : Binary64 :=
  let A := binary64
  let d : Int := (n : Int) - ((len / 2 : Nat) : Int)
  let w := A.mul (A.mul (A.int 2) Config.libPi) fc
  if d = 0 then w else A.div (Config.libSin (A.mul w (A.int d))) (A.int d)

/-- FIR_DESIGN: the generated kernel, not normalised (46_fir R382). -/
def firDesign (taps m : Nat) (cutoff rate : Binary64) : List Binary64 :=
  let len := taps * m
  let fc := binary64.div cutoff rate
  (List.range len).map fun n => binary64.mul (firWindow len n) (firSinc len fc n)

end Sys2Proof.Machine
end

