-- ==== Sys2Proof/Machine/Construct.lean ====
section
/-! DEFINITION. Machine/Construct.lean: construction, the only reset (70_reset R490, R491): validation of the configuration record
(60_exceptions R442), building the kernel, and the state of 10_state R80. -/

namespace Sys2Proof.Machine

/-- `FIR_RATE`, by default `OUT_RATE × M` (00_scope R7). -/
def firRateOf (c : RawConfig) : Binary64 := c.firRate.getD (binary64.mul c.outRate (binary64.int c.m))

/-- Every `Num` field of the record, the supplied kernel's entries included (60_exceptions R442, check 1). DESIGN CHOICE
(assumption log 11): `FIR_RATE` is looked at whether the host gave it or it is the default, and with a supplied kernel too. -/
def numFields (c : RawConfig) : List Binary64 :=
  [c.chipFreq, c.outRate, c.frameFreq, c.firCutoff, firRateOf c, c.biasAtten] ++ c.pan.toList ++ c.dac.toList
    ++ c.kernel.getD []

/-- An entry of `ENV_CLASS` with offset in 0..5 and transient in {0, 31, none} (60_exceptions R442, check 2). -/
def envEntryValid (e : Int × Option Int) : Bool :=
  decide (0 ≤ e.1 ∧ e.1 ≤ 5) && decide (e.2 = none ∨ e.2 = some 0 ∨ e.2 = some 31)

/-- The kernel is to be generated (46_fir R381). -/
def generated (c : RawConfig) : Bool := c.kernel.isNone

/-- The condition under which the check of an error fails (60_exceptions R442). Check 7 asks what 44_clock_step R322 requires, an
increment of at most 1, so that an increment that is no number fails it too (assumption log 11). -/
def checkFails (c : RawConfig) : ConfigError → Bool
  | .nonfinite => (numFields c).any fun v => !v.isFinite
  | .paramDomain =>
    !decide (c.lfsrFbPos = 15 ∨ c.lfsrFbPos = 16) || !decide (0 ≤ c.noiseMask ∧ c.noiseMask ≤ 255)
      || c.envClass.toList.any (fun e => !envEntryValid e) || decide (c.interpForm = .other)
  | .tapsZero => decide (c.taps = 0)
  | .mZero => decide (c.m = 0)
  | .rateNonpositive => c.outRate.le Binary64.zero || (generated c && (firRateOf c).le Binary64.zero)
  | .negativeFreq => c.chipFreq.lt Binary64.zero || c.frameFreq.lt Binary64.zero
  | .clockTooFast => !(clockStepOf binary64 c.chipFreq c.outRate c.m).le (binary64.int 1)
  | .kernelLength => match c.kernel with
    | some h => decide (h.length ≠ c.taps * c.m)
    | none => false
  | .genL1 => generated c && decide (c.taps * c.m < 2)
  | .cutoffNonpositive => generated c && c.firCutoff.le Binary64.zero
  | .cutoffNyquist => generated c && (binary64.div (firRateOf c) (binary64.int 2)).le c.firCutoff
  | .biasNZero => decide (c.biasN = 0)
  | .attenZero => decide (c.biasAtten.units = 0)
  | .dacZeroEntries => decide (c.dac[0].units ≠ 0) || decide (c.dac[1].units ≠ 0)

/-- The checks in the order they run (60_exceptions R442). -/
def checkOrder : List ConfigError :=
  [.nonfinite, .paramDomain, .tapsZero, .mZero, .rateNonpositive, .negativeFreq, .clockTooFast, .kernelLength, .genL1,
    .cutoffNonpositive, .cutoffNyquist, .biasNZero, .attenZero, .dacZeroEntries]

/-- The first failing check (60_exceptions R442). -/
def firstConfigError (c : RawConfig) : Option ConfigError := checkOrder.find? (checkFails c)

/-- The class of a valid offset 0..5 (42_envelope R251). -/
def envClassOf (o : Int) : EnvClass :=
  if o = 0 then .class0 else if o = 1 then .class1 else if o = 2 then .class2
  else if o = 3 then .class3 else if o = 4 then .class4 else .class5

/-- A valid entry of `ENV_CLASS` as a row (42_envelope R251). -/
def envRowOf (e : Int × Option Int) : EnvRow :=
  { offset := envClassOf e.1
    transient := match e.2 with
      | none => none
      | some t => if t = 0 then some .low else some .high }

/-- The kernel: the supplied table, or the generated one (46_fir R381). -/
def buildKernel (c : RawConfig) : List Binary64 :=
  match c.kernel with
  | some h => h
  | none => firDesign c.taps c.m c.firCutoff (firRateOf c)

/-- The configuration an instance keeps, of a record that has passed the checks (70_reset R491 steps 2 and 3). -/
def fixConfig (c : RawConfig) : Config where
  chipFreq := c.chipFreq
  outRate := c.outRate
  m := c.m
  frameFreq := c.frameFreq
  taps := c.taps
  h := buildKernel c
  biasN := c.biasN
  biasAtten := c.biasAtten
  pan := c.pan
  dac := c.dac
  noiseMask := BitVec.ofInt 8 c.noiseMask
  lfsrFbPos := if c.lfsrFbPos = 15 then .pos15 else .pos16
  envClass := Vector.ofFn fun k => envRowOf c.envClass[k]
  frameRemainder := c.frameRemainder
  interpForm := match c.interpForm with
    | .bourke => .bourke
    | _ => .catmullRom

/-- Construction (60_exceptions R443, 70_reset R491): the first failing check's error, or the state of 10_state R80. -/
def construct (c : RawConfig) (r : Routine) : Except ConfigError State :=
  match firstConfigError c with
  | some e => .error e
  | none => .ok (State.initial (fixConfig c) r)

/-- The move `construct`: the new instance replaces the present one and the host's later moves go to it (70_reset R490); a failed
construction creates no instance (60_exceptions R443). -/
def execConstruct (c : RawConfig) (r : Routine) (s : State) : Host.Outcome State Fault Refusal :=
  match construct c r with
  | .ok t => .next { t with inputs := s.inputs }
  | .error e => .fault (.configError e)

/-- A host's record for the configuration T of 95_test_vectors, with the given supplied kernel. -/
def standardRecord : RawConfig where
  chipFreq := binary64.int 8
  outRate := binary64.int 1
  m := 1
  frameFreq := Binary64.zero
  taps := 1
  kernel := some [binary64.int 1]
  firCutoff := Binary64.zero
  firRate := none
  biasN := 2
  biasAtten := binary64.int 1
  pan := standardConfig.pan
  dac := dacTest
  noiseMask := 255
  lfsrFbPos := 16
  envClass := #v[(0, some 0), (0, some 0), (0, some 0), (0, some 0), (1, some 0), (1, some 0), (1, some 0), (1, some 0),
    (2, none), (0, some 0), (4, none), (0, some 31), (3, none), (1, some 31), (5, none), (1, some 0)]
  frameRemainder := .drop
  interpForm := .catmullRom

end Sys2Proof.Machine
end

