-- ==== Sys2Proof/Machine/BiasFilter.lean ====
section
/-! DEFINITION. Machine/BiasFilter.lean: the bias (DC-blocking) filter (47_bias). A read outside the buffer, which no rule allows
(10_state R70), gives 0.0 (assumption log 12). -/

namespace Sys2Proof.Machine

/-- BIAS_STEP (47_bias R422). -/
def biasStep {α : Type} (A : Arith α) (n : Nat) (atten : α) (b : Bias α) (v : α) : Bias α × α :=
  let delta := A.sub v (b.buf.getD b.idx (A.int 0))
  let sum := A.add b.sum delta
  ({ buf := b.buf.set b.idx v, sum := sum, idx := (b.idx + 1) % n },
    A.mul (A.sub v (A.div sum (A.int n))) (A.div (A.int 1) atten))

end Sys2Proof.Machine
end

