-- ==== Sys2Proof/Machine/Interpolator.lean ====
section
/-! DEFINITION. Machine/Interpolator.lean: the cubic interpolator (45_interpolator). Every product and sum is one operation of the
arithmetic, in the order the rules write them (00_scope R15). -/

namespace Sys2Proof.Machine

/-- INTERP_PUSH (45_interpolator R361). -/
def interpPush {α : Type} (ip : Interp α) (v : α) : Interp α := { h0 := ip.h1, h1 := ip.h2, h2 := ip.h3, h3 := v }

/-- `a0*μ*mu2 + a1*mu2 + a2*μ + a3`, the cubic of either form (45_interpolator R363, R364). -/
def cubic {α : Type} (A : Arith α) (a0 a1 a2 a3 mu : α) : α :=
  let mu2 := A.mul mu mu
  A.add (A.add (A.add (A.mul (A.mul a0 mu) mu2) (A.mul a1 mu2)) (A.mul a2 mu)) a3

/-- INTERP_EVAL with `INTERP_FORM = CatmullRom` (45_interpolator R363). -/
def evalCatmullRom {α : Type} (A : Arith α) (ip : Interp α) (mu : α) : α :=
  let half := A.ratio 1 2
  let negHalf := A.ratio (-1) 2
  let threeHalves := A.ratio 3 2
  let a0 := A.add (A.sub (A.add (A.mul negHalf ip.h0) (A.mul threeHalves ip.h1)) (A.mul threeHalves ip.h2)) (A.mul half ip.h3)
  let a1 := A.sub (A.add (A.sub ip.h0 (A.mul (A.ratio 5 2) ip.h1)) (A.mul (A.int 2) ip.h2)) (A.mul half ip.h3)
  let a2 := A.add (A.mul negHalf ip.h0) (A.mul half ip.h2)
  cubic A a0 a1 a2 ip.h1 mu

/-- INTERP_EVAL with `INTERP_FORM = Bourke` (45_interpolator R364). -/
def evalBourke {α : Type} (A : Arith α) (ip : Interp α) (mu : α) : α :=
  let a0 := A.add (A.sub (A.sub ip.h3 ip.h2) ip.h0) ip.h1
  let a1 := A.sub (A.sub ip.h0 ip.h1) a0
  let a2 := A.sub ip.h2 ip.h0
  cubic A a0 a1 a2 ip.h1 mu

/-- INTERP_EVAL; it writes nothing (45_interpolator R362 to R364, R367). -/
def interpEval {α : Type} (A : Arith α) (form : InterpForm) (ip : Interp α) (mu : α) : α :=
  match form with
  | .catmullRom => evalCatmullRom A ip mu
  | .bourke => evalBourke A ip mu

end Sys2Proof.Machine
end

