-- ==== Sys2Proof/Machine/Envelope.lean ====
section
/-! DEFINITION. Machine/Envelope.lean: the envelope automaton (42_envelope), on the envelope's own fields. -/

namespace Sys2Proof.Machine

/-- The level a transient stands for (10_state R48). -/
def transientLevel : Transient → Fin 32
  | .low => 0
  | .high => 31

/-- ENV_CLASSIFY with the table's row of shape `v` (42_envelope R252, R253). -/
def envClassifyRow (row : EnvRow) (v : Fin 16) (e : Env) : Env :=
  { e with
    shape := v
    offset := row.offset
    transient := match row.transient with
      | some t => t
      | none => e.transient }

/-- ENV_RESET: the initial step of the current half-cycle (42_envelope R258). -/
def envReset (e : Env) : Env :=
  { e with
    step := match e.offset with
      | .class0 => if e.strobe then transientLevel e.transient else 31
      | .class4 => if e.strobe then transientLevel e.transient else 31
      | .class1 => if e.strobe then transientLevel e.transient else 0
      | .class5 => if e.strobe then transientLevel e.transient else 0
      | .class2 => 31
      | .class3 => 0 }

/-- GROW (42_envelope R255). Past 31 the strobe flips and ENV_RESET replaces the step. -/
def envGrow (e : Env) : Env :=
  let next := e.step.val + 1
  if next > 31 then envReset { e with strobe := !e.strobe } else { e with step := Fin.ofNat 32 next }

/-- DECAY (42_envelope R256). Below 0 the strobe flips and ENV_RESET replaces the step. -/
def envDecay (e : Env) : Env :=
  let next : Int := (e.step.val : Int) - 1
  if next < 0 then envReset { e with strobe := !e.strobe } else { e with step := Fin.ofNat 32 next.toNat }

/-- The three step functions (42_envelope R254). -/
inductive StepFunction where
  | grow
  | decay
  | hold
  deriving DecidableEq, Repr

/-- The dispatch table, keyed by offset and strobe (42_envelope R254). -/
def envDispatch : EnvClass → Bool → StepFunction
  | .class0, false => .decay
  | .class0, true => .hold
  | .class1, false => .grow
  | .class1, true => .hold
  | .class2, _ => .decay
  | .class3, _ => .grow
  | .class4, false => .decay
  | .class4, true => .grow
  | .class5, false => .grow
  | .class5, true => .decay

/-- One advance of the envelope: the dispatched step function; HOLD does nothing (42_envelope R254 to R257). -/
def envAdvance (e : Env) : Env :=
  match envDispatch e.offset e.strobe with
  | .grow => envGrow e
  | .decay => envDecay e
  | .hold => e

/-- ENV_CHANGE: a shape other than the stored one restarts the envelope (42_envelope R259). -/
def envChange (e : Env) : Env :=
  if e.shape ≠ e.store then envReset { e with store := e.shape, strobe := false, counter := 0 } else e

/-- ENV_TICK, the state after one tick (42_envelope R260); what it returns is the step of that state. -/
def envTick (e : Env) : Env :=
  let e1 := { e with counter := e.counter + 1 }
  if e1.counter ≥ e1.period then envAdvance { e1 with counter := 0 } else e1

end Sys2Proof.Machine
end

