-- ==== Sys2Proof/Machine/Flags.lean ====
section
/-! DEFINITION. Machine/Flags.lean: the status bits derived from the mixer and volume registers (10_state R55, R57, R58). -/

namespace Sys2Proof.Machine

/-- `tone_off` of channel `i`: `(x[7] & (0x1 << i)) ≠ 0` (40_register_interface R183). -/
def toneOffFlag (mixer : Byte) (i : Fin 3) : Bool := decide (mixer &&& (0x01#8 <<< i.val) ≠ 0)

/-- `noise_off` of channel `i`: `(x[7] & (0x8 << i)) ≠ 0` (40_register_interface R183). -/
def noiseOffFlag (mixer : Byte) (i : Fin 3) : Bool := decide (mixer &&& (0x08#8 <<< i.val) ≠ 0)

/-- `env_flag`: 0 when bit 4 of the volume register is set, else 1 (40_register_interface R184). -/
def envSelectFlag (volume : Byte) : Bool := if volume &&& 0x10 ≠ 0 then false else true

/-- The 4-bit volume, `x[8+i] & 0x0F` (40_register_interface R182). -/
def volumeField (volume : Byte) : Fin 16 := Fin.ofNat 16 (volume &&& 0x0F).toNat

/-- The 4-bit envelope shape of the clamped register (10_state R59). -/
def shapeField (shape : Byte) : Fin 16 := Fin.ofNat 16 shape.toNat

/-- The gate of a channel: `(tone_bit | tone_off) & (noise_bit | noise_off)` (43_mixer_dac R294). -/
def gateBit (toneBit toneOff noiseBit noiseOff : Bool) : Bool := (toneBit || toneOff) && (noiseBit || noiseOff)

end Sys2Proof.Machine
end

