-- ==== Sys2Proof/Machine/Oscillators.lean ====
section
/-! DEFINITION. Machine/Oscillators.lean: the tone and noise oscillators (41_tone_noise). Every counter advances by 1 a tick
(R220). -/

namespace Sys2Proof.Machine

/-- TONE_TICK, the channel after one tick; the bit it returns is the port of that state (41_tone_noise R221). -/
def toneTick (t : Tone) : Tone :=
  let t1 := { t with counter := t.counter + 1 }
  if t1.counter ≥ t1.period then { t1 with port := !t1.port, counter := 0 } else t1

/-- The feedback bit `b = s[0] ^ s[3]` (41_tone_noise R225), as a 17-bit word. -/
def lfsrFeedback (s : BitVec 17) : BitVec 17 := if xor (s.getLsbD 0) (s.getLsbD 3) then 1 else 0

/-- LFSR_NEXT (41_tone_noise R225, R226). -/
def lfsrNext (pos : LfsrFbPos) (s : BitVec 17) : BitVec 17 :=
  match pos with
  | .pos16 => (s >>> 1) ||| (lfsrFeedback s <<< 16)
  | .pos15 => (s ||| (lfsrFeedback s <<< 16)) >>> 1

/-- The noise output: bit 0 of the LFSR (41_tone_noise R227). -/
def noisePort (n : Noise) : Bool := n.lfsr.getLsbD 0

/-- NOISE_TICK, the channel after one tick; the bit it returns is `noisePort` of that state (41_tone_noise R224). -/
def noiseTick (pos : LfsrFbPos) (n : Noise) : Noise :=
  let n1 := { n with counter := n.counter + 1 }
  if n1.counter ≥ n1.period then { n1 with counter := 0, lfsr := lfsrNext pos n1.lfsr } else n1

end Sys2Proof.Machine
end

