-- ==== Sys2Proof/Machine/Mixer.lean ====
section
/-! DEFINITION. Machine/Mixer.lean: the DAC index, the pan clamp, and MIXER_TICK, which advances the noise channel, the envelope
and the three tone channels by one tick and forms the raw stereo sample (43_mixer_dac). -/

namespace Sys2Proof.Machine

/-- The DAC index of a channel with envelope value `e` (43_mixer_dac R291). -/
def dacIndex (c : Chan) (e : Fin 32) : Fin 32 := if c.envFlag = false then e else ⟨c.volume.val * 2 + 1, by omega⟩

/-- The pan used at mix time, `min(max(PAN, 0.1), 0.9)` (43_mixer_dac R292). -/
def panClamp {α : Type} (A : Arith α) (pan : α) : α := A.min (A.max pan (A.ratio 1 10)) (A.ratio 9 10)

/-- `v = gate * DAC[index]` (43_mixer_dac R295); the bit is the integer 0 or 1 (00_scope R16). -/
def channelValue {α : Type} (A : Arith α) (gate : Bool) (level : α) : α := A.mul (A.int gate.toNat) level

/-- One channel's contribution: `l + v*(1-p)` and `r + v*p` (43_mixer_dac R293, R295). -/
def mixAdd {α : Type} (A : Arith α) (acc : Sides α) (v pan : α) : Sides α :=
  let p := panClamp A pan
  { left := A.add acc.left (A.mul v (A.sub (A.int 1) p))
    right := A.add acc.right (A.mul v p) }

/-- The value `v` of channel `i` on a tick: its gate and its DAC level, with the noise bit `n` and the envelope value `e` of the
tick and the channel's oscillator `t` after it (43_mixer_dac R291, R293, R294). -/
def channelLevel (c : Config) (ch : Chan) (t : Tone) (n : Bool) (e : Fin 32) : Binary64 :=
  channelValue binary64 (gateBit t.port ch.toneOff n ch.noiseOff) c.dac[dacIndex ch e]

/-- MIXER_TICK: the noise channel, the envelope and the tones A, B, C advance by one tick (they are independent), and the raw pair
is summed in the order A, B, C from 0.0 (43_mixer_dac R293, R295). -/
def mixerTick (s : State) : State × Sides Binary64 :=
  let noise := noiseTick s.cfg.lfsrFbPos s.noise
  let env := envTick s.env
  let tone := Vector.ofFn fun i => toneTick s.tone[i]
  let v (i : Fin 3) : Binary64 := channelLevel s.cfg s.chan[i] tone[i] (noisePort noise) env.step
  ({ s with noise := noise, env := env, tone := tone },
    mixAdd binary64 (mixAdd binary64 (mixAdd binary64 { left := Binary64.zero, right := Binary64.zero }
      (v 0) s.cfg.pan[0]) (v 1) s.cfg.pan[1]) (v 2) s.cfg.pan[2])

end Sys2Proof.Machine
end

