-- ==== Sys2Proof/Machine/Operands.lean ====
section
/-! DEFINITION. Machine/Operands.lean: the operand forms: a register address field, the masks of the register file, and the
values the decode step composes from register bytes (20_memory R102). -/

namespace Sys2Proof.Machine

/-- The register an address field names; 14 and 15 name none (30_encoding R132, R139). -/
def regIndex (a : RegAddr) : Option (Fin 14) := if h : a.toNat < 14 then some ⟨a.toNat, h⟩ else none

/-- `MASK[a]` (40_register_interface R161). -/
def regMask (c : Config) (a : Fin 14) : Byte :=
  match a.val with
  | 1 => 0x0F
  | 3 => 0x0F
  | 5 => 0x0F
  | 6 => c.noiseMask
  | 13 => 0x0F
  | _ => 0xFF

/-- `max1(v)`: a zero period becomes 1 (40_register_interface R177). -/
def max1 (v : Nat) : Nat := if v = 0 then 1 else v

/-- `fine | (coarse << 8)`, the low-order byte at the lower address (20_memory R102). -/
def bytePair (fine coarse : Byte) : Nat := fine.toNat ||| (coarse.toNat <<< 8)

/-- The address of the fine byte of tone channel `i` (10_state R56). -/
def fineAddr (i : Fin 3) : Fin 14 := ⟨2 * i.val, by omega⟩

/-- The address of the coarse byte of tone channel `i` (10_state R56). -/
def coarseAddr (i : Fin 3) : Fin 14 := ⟨2 * i.val + 1, by omega⟩

/-- The address of the volume register of tone channel `i` (10_state R58). -/
def volumeAddr (i : Fin 3) : Fin 14 := ⟨8 + i.val, by omega⟩

/-- Tone period of channel `i` from a clamped register file (40_register_interface R179). -/
def tonePeriod (x : Vector Byte 14) (i : Fin 3) : Nat := max1 (bytePair x[fineAddr i] x[coarseAddr i])

/-- Noise period from a clamped register file (40_register_interface R180). -/
def noisePeriod (x : Vector Byte 14) : Nat := max1 (x[6].toNat <<< 1)

/-- Envelope period from a clamped register file (40_register_interface R181). -/
def envPeriod (x : Vector Byte 14) : Nat := max1 (bytePair x[11] x[12])

end Sys2Proof.Machine
end

