-- ==== Sys2Proof/Machine/RegisterMap.lean ====
section
/-! DEFINITION. Machine/RegisterMap.lean: `map()`, the register decode that every chip-clock tick runs before the mixer
(40_register_interface R177). Sub-step (a) clamps the register file; (b) to (f) read only the clamped file, each writing fields
of its own, in the order of the rule. -/

namespace Sys2Proof.Machine

/-- (a) Every register clamped to its mask (40_register_interface R178). -/
def clampFile (c : Config) (x : Vector Byte 14) : Vector Byte 14 := Vector.ofFn fun a => x[a] &&& regMask c a

/-- (b) The tone channel `i` with its period derived; counter and port are not touched (40_register_interface R179). -/
def mapTone (x : Vector Byte 14) (i : Fin 3) (t : Tone) : Tone := { t with period := tonePeriod x i }

/-- (b) The noise channel with its period derived (40_register_interface R180). -/
def mapNoise (x : Vector Byte 14) (n : Noise) : Noise := { n with period := noisePeriod x }

/-- (c), (d) The mixer fields of channel `i` (40_register_interface R182, R183, R184). -/
def mapChan (x : Vector Byte 14) (i : Fin 3) : Chan where
  volume := volumeField x[volumeAddr i]
  toneOff := toneOffFlag x[7] i
  noiseOff := noiseOffFlag x[7] i
  envFlag := envSelectFlag x[volumeAddr i]

/-- (b), (e), (f) The envelope: its period, ENV_CLASSIFY of the shape register, then ENV_CHANGE (40_register_interface R181,
42_envelope R252, R259). -/
def mapEnv (c : Config) (x : Vector Byte 14) (e : Env) : Env :=
  envChange (envClassifyRow c.envClass[shapeField x[13]] (shapeField x[13]) { e with period := envPeriod x })

/-- `map()` (40_register_interface R177). -/
def mapRegisters (s : State) : State :=
  let x := clampFile s.cfg s.x
  { s with
    x := x
    tone := Vector.ofFn fun i => mapTone x i s.tone[i]
    chan := Vector.ofFn fun i => mapChan x i
    noise := mapNoise x s.noise
    env := mapEnv s.cfg x s.env }

end Sys2Proof.Machine
end

