-- ==== Sys2Proof/Machine/ClockStep.lean ====
section
/-! DEFINITION. Machine/ClockStep.lean: the two accumulators, the chip tick and the oversample loop of STEP (44_clock_step). -/

namespace Sys2Proof.Machine

/-- CLOCK_ADVANCE: the new cycle, and whether this iteration ticks; the comparison is strict (44_clock_step R324). -/
def clockAdvance {α : Type} (A : Arith α) (cycle step : α) : α × Bool :=
  let c := A.add cycle step
  if A.lt (A.int 1) c then (A.sub c (A.int 1), true) else (c, false)

/-- FRAME_ADVANCE: the new cycle, and whether the frame event is raised (44_clock_step R325); the remainder is dropped, or
kept under the alternative `FRAME_REMAINDER`. -/
def frameAdvance {α : Type} (A : Arith α) (rem : FrameRemainder) (cycle fs : α) : α × Bool :=
  let c := A.add cycle fs
  if A.lt (A.int 1) c then
    (match rem with
      | .drop => A.int 0
      | .keep => A.sub c (A.int 1), true)
  else (c, false)

/-- CHIP_TICK: map, mixer tick, push into both interpolators (44_clock_step R327). -/
def chipTick (s : State) : State :=
  let r := mixerTick (mapRegisters s)
  { r.1 with
    interp :=
      { left := interpPush r.1.interp.left r.2.left
        right := interpPush r.1.interp.right r.2.right } }

/-- The clock work of one oversample iteration: advance, and tick if the accumulator exceeds 1 (44_clock_step R326). -/
def clockIteration (s : State) : State :=
  let r := clockAdvance binary64 s.clock.cycle s.clock.step
  let s1 := { s with clock := { s.clock with cycle := r.1 } }
  if r.2 then chipTick s1 else s1

/-- The oversampled pair of one iteration, at the fixed phase 0.5, tick or no tick (44_clock_step R326). -/
def interpSample (s : State) : Sides Binary64 :=
  { left := interpEval binary64 s.cfg.interpForm s.interp.left (binary64.ratio 1 2)
    right := interpEval binary64 s.cfg.interpForm s.interp.right (binary64.ratio 1 2) }

/-- `k` oversample iterations and the pairs they produce, in order (44_clock_step R326; 10_state R61). -/
def oversample : Nat → State → State × List (Sides Binary64)
  | 0, s => (s, [])
  | k + 1, s =>
    let s1 := clockIteration s
    let r := oversample k s1
    (r.1, interpSample s1 :: r.2)

end Sys2Proof.Machine
end

