-- ==== Sys2Proof/Machine/Ops.lean ====
section
/-! DEFINITION. Machine/Ops.lean: the named operations of a command: answering the host, refusing, reading and writing the
register file, and entering and leaving the frame event, which takes the place of an exception (60_exceptions). -/

namespace Sys2Proof.Machine

/-- Give the host an answer (30_encoding R137). -/
def respond (r : Response) (s : State) : State := { s with response := r }

/-- `refuse(reason)`: set the mark and change no other state (10_state R62, 60_exceptions R444). -/
def refuse (reason : RefuseReason) (s : State) : State := { s with refused := true, response := .refusal reason }

/-- `x[a] <- d`, unmasked (40_register_interface R160). -/
def writeReg (a : Fin 14) (d : Byte) (s : State) : State := { s with x := s.x.set a d }

/-- `x[a] & MASK[a]`, what a read of the register returns (40_register_interface R162). -/
def readReg (a : Fin 14) (s : State) : Byte := s.x[a] &&& regMask s.cfg a

/-- The immediate effect of every `WR_*` (40_register_interface R160): the byte is stored and nothing is returned. -/
def writeCommand (a : Fin 14) (d : Byte) (s : State) : Host.Outcome State Fault Refusal :=
  .next (respond .nothing (writeReg a d s))

/-- FRAME_EVENT, entry with a host routine installed: save nothing, set the flag, call the host (60_exceptions R454). -/
def frameEnter (s : State) : State := respond .frameCall { s with inFrameRoutine := true }

/-- FRAME_RETURN: clear the flag; nothing is restored, since nothing was saved (60_exceptions R456). -/
def frameLeave (s : State) : State := { s with inFrameRoutine := false }

end Sys2Proof.Machine
end

