-- ==== Sys2Proof/Machine/Sample.lean ====
section
/-! DEFINITION. Machine/Sample.lean: the STEP command (44_clock_step R326), cut where the frame event may hand control to the
host (60_exceptions R454): before it, `stepBegin`; after it, `stepFinish`. -/

namespace Sys2Proof.Machine

/-- The start of STEP: recompute the clock increment and advance the frame accumulator (44_clock_step R321, R323, R325). The
bit says whether the frame event is raised. -/
def stepBegin (s : State) : State × Bool :=
  let s1 := { s with clock := { s.clock with step := clockStepOf binary64 s.cfg.chipFreq s.cfg.outRate s.cfg.m } }
  let r := frameAdvance binary64 s.cfg.frameRemainder s1.frame.cycle (frameStepOf binary64 s.cfg.frameFreq s.cfg.outRate)
  ({ s1 with frame := { s1.frame with cycle := r.1 } }, r.2)

/-- The FIR and bias filters of one audio channel over the oversampled values `os` of this STEP (44_clock_step R326). -/
def filterChannel (c : Config) (f : Fir Binary64) (b : Bias Binary64) (os : List Binary64) : (Fir Binary64 × Bias Binary64) × Binary64 :=
  let y := firStep binary64 c.taps c.m c.h f os
  let o := biasStep binary64 c.biasN c.biasAtten b y.2
  ((y.1, o.1), o.2)

/-- The rest of STEP: the oversample loop, then both channels' filters; the pair is returned (44_clock_step R326). -/
def stepFinish (s : State) : State :=
  let r := oversample s.cfg.m s
  let l := filterChannel s.cfg r.1.fir.left r.1.bias.left (r.2.map fun p => p.left)
  let q := filterChannel s.cfg r.1.fir.right r.1.bias.right (r.2.map fun p => p.right)
  respond (.sample l.2 q.2)
    { r.1 with
      fir := { left := l.1.1, right := q.1.1 }
      bias := { left := l.1.2, right := q.1.2 } }

/-- FRAME_EVENT inside STEP: the no-op routine returns at once and STEP goes on; a host routine gets control, and STEP goes on at
FRAME_RETURN (60_exceptions R451, R454, R456). -/
def frameEvent (s : State) : State :=
  match s.frame.routine with
  | .noop => stepFinish s
  | .host => frameEnter s

/-- STEP up to its end, or up to the call of the host's frame routine (44_clock_step R326). -/
def stepRun (s : State) : State :=
  let r := stepBegin s
  if r.2 then frameEvent r.1 else stepFinish r.1

/-- STEP (44_clock_step R326); inside the frame routine it is refused (60_exceptions R445). -/
def execStep (s : State) : Host.Outcome State Fault Refusal :=
  .next (if s.inFrameRoutine then refuse .reentrantStep s else stepRun s)

/-- The move FRAME_RETURN: the suspended STEP resumes with its oversample loop (60_exceptions R456). With no routine running it
has no meaning (assumption log 8). -/
def execFrameReturn (s : State) : Host.Outcome State Fault Refusal :=
  if s.inFrameRoutine then .next (stepFinish (frameLeave s)) else .refused .frameReturnOutsideRoutine

end Sys2Proof.Machine
end

