-- ==== Sys2Proof/Machine/Writes.lean ====
section
/-! DEFINITION. Machine/Writes.lean: the register access family (40_register_interface): the fourteen writes and the read. A
write's deferred meaning is `mapRegisters`'s (R177); nothing derived changes here (R160). -/

namespace Sys2Proof.Machine

/-- WR_AFINE: `x[0] <- d` (40_register_interface R163). -/
def execWrAfine (d : Byte) (s : State) : Host.Outcome State Fault Refusal := writeCommand 0 d s

/-- WR_ACOARSE: `x[1] <- d` (40_register_interface R164). -/
def execWrAcoarse (d : Byte) (s : State) : Host.Outcome State Fault Refusal := writeCommand 1 d s

/-- WR_BFINE: `x[2] <- d` (40_register_interface R165). -/
def execWrBfine (d : Byte) (s : State) : Host.Outcome State Fault Refusal := writeCommand 2 d s

/-- WR_BCOARSE: `x[3] <- d` (40_register_interface R166). -/
def execWrBcoarse (d : Byte) (s : State) : Host.Outcome State Fault Refusal := writeCommand 3 d s

/-- WR_CFINE: `x[4] <- d` (40_register_interface R167). -/
def execWrCfine (d : Byte) (s : State) : Host.Outcome State Fault Refusal := writeCommand 4 d s

/-- WR_CCOARSE: `x[5] <- d` (40_register_interface R168). -/
def execWrCcoarse (d : Byte) (s : State) : Host.Outcome State Fault Refusal := writeCommand 5 d s

/-- WR_NOISE: `x[6] <- d` (40_register_interface R169). -/
def execWrNoise (d : Byte) (s : State) : Host.Outcome State Fault Refusal := writeCommand 6 d s

/-- WR_MIXER: `x[7] <- d` (40_register_interface R170). -/
def execWrMixer (d : Byte) (s : State) : Host.Outcome State Fault Refusal := writeCommand 7 d s

/-- WR_AVOL: `x[8] <- d` (40_register_interface R171). -/
def execWrAvol (d : Byte) (s : State) : Host.Outcome State Fault Refusal := writeCommand 8 d s

/-- WR_BVOL: `x[9] <- d` (40_register_interface R172). -/
def execWrBvol (d : Byte) (s : State) : Host.Outcome State Fault Refusal := writeCommand 9 d s

/-- WR_CVOL: `x[10] <- d` (40_register_interface R173). -/
def execWrCvol (d : Byte) (s : State) : Host.Outcome State Fault Refusal := writeCommand 10 d s

/-- WR_EFINE: `x[11] <- d` (40_register_interface R174). -/
def execWrEfine (d : Byte) (s : State) : Host.Outcome State Fault Refusal := writeCommand 11 d s

/-- WR_ECOARSE: `x[12] <- d` (40_register_interface R175). -/
def execWrEcoarse (d : Byte) (s : State) : Host.Outcome State Fault Refusal := writeCommand 12 d s

/-- WR_ESHAPE: `x[13] <- d` (40_register_interface R176). -/
def execWrEshape (d : Byte) (s : State) : Host.Outcome State Fault Refusal := writeCommand 13 d s

/-- RD: return `x[a] & MASK[a]`, changing no state (40_register_interface R162). An address that names no register makes the term
ill-formed; no word decodes to it, and it is refused as 30_encoding R139 says (assumption log 21). -/
def execRd (a : RegAddr) (s : State) : Host.Outcome State Fault Refusal :=
  match regIndex a with
  | some r => .next (respond (.byte (readReg r s)) s)
  | none => .next (refuse .reservedCommand s)

end Sys2Proof.Machine
end

