-- ==== Sys2Proof/Machine/Dispatch.lean ====
section
/-! DEFINITION. Machine/Dispatch.lean: the meaning of each command, one arm per constructor of `Instr`. -/

namespace Sys2Proof.Machine

def exec (i : Instr) (s : State) : Host.Outcome State Fault Refusal :=
  match i with
  | .wrAfine d => Sys2Proof.Machine.execWrAfine d s
  | .wrAcoarse d => Sys2Proof.Machine.execWrAcoarse d s
  | .wrBfine d => Sys2Proof.Machine.execWrBfine d s
  | .wrBcoarse d => Sys2Proof.Machine.execWrBcoarse d s
  | .wrCfine d => Sys2Proof.Machine.execWrCfine d s
  | .wrCcoarse d => Sys2Proof.Machine.execWrCcoarse d s
  | .wrNoise d => Sys2Proof.Machine.execWrNoise d s
  | .wrMixer d => Sys2Proof.Machine.execWrMixer d s
  | .wrAvol d => Sys2Proof.Machine.execWrAvol d s
  | .wrBvol d => Sys2Proof.Machine.execWrBvol d s
  | .wrCvol d => Sys2Proof.Machine.execWrCvol d s
  | .wrEfine d => Sys2Proof.Machine.execWrEfine d s
  | .wrEcoarse d => Sys2Proof.Machine.execWrEcoarse d s
  | .wrEshape d => Sys2Proof.Machine.execWrEshape d s
  | .rd a => Sys2Proof.Machine.execRd a s
  | .step => Sys2Proof.Machine.execStep s

end Sys2Proof.Machine
end

