-- ==== Sys2Proof/Machine/Moves.lean ====
section
/-! DEFINITION. Machine/Moves.lean: one move of the host (60_exceptions R470), taken from the queue of its pending moves. A command
word is decoded and run; a reserved word is refused (30_encoding R139). -/

namespace Sys2Proof.Machine

/-- A command word: run the command it decodes to; a reserved word sets the refusal mark and nothing else (30_encoding R139). -/
def execWord (w : CmdWord) (s : State) : Host.Outcome State Fault Refusal :=
  match decode w with
  | .ok i => exec i s
  | .error _ => .next (refuse .reservedCommand s)

/-- One move of the host. -/
def execMove (e : HostEvent) (s : State) : Host.Outcome State Fault Refusal :=
  match e with
  | .command w => execWord w s
  | .frameReturn => execFrameReturn s
  | .construct c r => execConstruct c r s

/-- Take the next move of the host; with none pending the whole state persists unchanged (60_exceptions R465). -/
def nextMove (s : State) : Host.Outcome State Fault Refusal :=
  match s.inputs with
  | [] => .next s
  | e :: rest => execMove e { s with inputs := rest }

/-- The state with the command word `w` as the host's next move. -/
def pushCommand (w : CmdWord) (s : State) : State := { s with inputs := .command w :: s.inputs }

end Sys2Proof.Machine
end

