-- ==== Sys2Proof/Machine/Assembly.lean ====
section
/-! DEFINITION. Machine/Assembly.lean: assembly text, pseudo-instructions and disassembly (30_encoding R142 to R144). Spaces, tabs
and commas separate tokens, spelling is as the rules print it, and every number, not `<imm8>` alone, is a decimal or `0x`
hexadecimal integer (assumption log 20). -/

namespace Sys2Proof.Machine

/-- The write command of register `a` (30_encoding R134). -/
def writeInstr (a : Fin 14) (d : Byte) : Instr :=
  match a with
  | 0 => .wrAfine d
  | 1 => .wrAcoarse d
  | 2 => .wrBfine d
  | 3 => .wrBcoarse d
  | 4 => .wrCfine d
  | 5 => .wrCcoarse d
  | 6 => .wrNoise d
  | 7 => .wrMixer d
  | 8 => .wrAvol d
  | 9 => .wrBvol d
  | 10 => .wrCvol d
  | 11 => .wrEfine d
  | 12 => .wrEcoarse d
  | 13 => .wrEshape d

/-- The pseudo-instructions (30_encoding R143). -/
inductive Pseudo where
  /-- `WRPER ch, p` -/
  | tonePeriod (ch : Fin 3) (p : BitVec 12)
  /-- `WRENV p` -/
  | envPeriod (p : BitVec 16)
  /-- `WRROW b0, …, b13` -/
  | row (b : Vector Byte 14)
  /-- `RUN n` -/
  | run (n : Nat)
  deriving DecidableEq, Repr

/-- The writes of a whole row, registers 0 to 13 in address order (30_encoding R143, 60_exceptions R455). -/
def rowWrites (b : Vector Byte 14) : List Instr := (List.finRange 14).map fun a => writeInstr a b[a]

/-- The expansion of a pseudo-instruction (30_encoding R143). -/
def expandPseudo : Pseudo → List Instr
  | .tonePeriod ch p =>
    [writeInstr (fineAddr ch) (p.extractLsb' 0 8), writeInstr (coarseAddr ch) ((p.extractLsb' 8 4).zeroExtend 8)]
  | .envPeriod p => [.wrEfine (p.extractLsb' 0 8), .wrEcoarse (p.extractLsb' 8 8)]
  | .row b => rowWrites b
  | .run n => List.replicate n .step

/-- The host's moves of a frame routine that writes one row and returns (60_exceptions R455, R456). -/
def rowRoutine (b : Vector Byte 14) : List HostEvent :=
  (rowWrites b).map (fun i => .command (encode i)) ++ [.frameReturn]

/-- An upper-case hexadecimal digit. -/
def hexDigit (n : Nat) : Char := if n < 10 then Char.ofNat (48 + n) else Char.ofNat (55 + n)

/-- `0x` and `k` hexadecimal digits of `n`. -/
def hexText (k n : Nat) : List Char :=
  '0' :: 'x' :: (List.range k).reverse.map fun j => hexDigit (n / 16 ^ j % 16)

/-- A register address in decimal (30_encoding R144). -/
def addrText (a : Nat) : List Char := if a < 10 then [hexDigit a] else [hexDigit (a / 10), hexDigit (a % 10)]

/-- The operand text of a command. -/
def operandText : Instr → List Char
  | .rd a => ' ' :: addrText a.toNat
  | .step => []
  | i => ' ' :: hexText 2 (dataField (encode i)).toNat

/-- Disassembly of one word (30_encoding R144). -/
def disassemble (w : CmdWord) : List Char :=
  match decode w with
  | .ok i => (mnemonic i).toList ++ operandText i
  | .error _ => ".word ".toList ++ hexText 4 w.toNat

/-- Why the assembler refuses a line (30_encoding R142). -/
inductive AsmError where
  /-- No command has these tokens. -/
  | unknownCommand
  /-- A number is malformed or out of range. -/
  | badNumber
  /-- A register or channel name is unknown. -/
  | badName
  deriving DecidableEq, Repr

/-- The tokens of a line up to its comment: `cur` is the token being read, backwards. -/
def tokens : List Char → List Char → List (List Char)
  | cur, [] => if cur.isEmpty then [] else [cur.reverse]
  | cur, c :: cs =>
    if c = ';' then (if cur.isEmpty then [] else [cur.reverse])
    else if c = ' ' ∨ c = '\t' ∨ c = ',' then (if cur.isEmpty then tokens [] cs else cur.reverse :: tokens [] cs)
    else tokens (c :: cur) cs

/-- The value of a digit of base 10 or 16. -/
def digitValue (base : Nat) (c : Char) : Option Nat :=
  let n := c.toNat
  let v := if 48 ≤ n ∧ n ≤ 57 then n - 48 else if 65 ≤ n ∧ n ≤ 70 then n - 55 else if 97 ≤ n ∧ n ≤ 102 then n - 87 else 99
  if v < base then some v else none

/-- The number a digit string denotes, after `acc`. -/
def digits (base : Nat) : Nat → List Char → Option Nat
  | acc, [] => some acc
  | acc, c :: cs =>
    match digitValue base c with
    | some v => digits base (acc * base + v) cs
    | none => none

/-- A decimal or `0x` hexadecimal integer. 30_encoding R142 gives this form of `<imm8>` only; DESIGN CHOICE (assumption log 20): the
addresses, the periods, the bytes of a row and the count of `RUN` take it too. -/
def numberValue (t : List Char) : Option Nat :=
  match t with
  | '0' :: 'x' :: d :: ds => digits 16 0 (d :: ds)
  | d :: ds => digits 10 0 (d :: ds)
  | [] => none

/-- A number below `bound` (30_encoding R142, R143). -/
def number (bound : Nat) (t : List Char) : Except AsmError Nat :=
  match numberValue t with
  | some n => if n < bound then .ok n else .error .badNumber
  | none => .error .badNumber

/-- The register names (10_state R41), by address. -/
def registerNames : List String :=
  ["A_FINE", "A_COARSE", "B_FINE", "B_COARSE", "C_FINE", "C_COARSE", "NOISE_PERIOD", "MIXER", "A_VOL", "B_VOL", "C_VOL",
    "ENV_FINE", "ENV_COARSE", "ENV_SHAPE"]

/-- The mnemonics of the write commands, by address (30_encoding R138). -/
def writeMnemonics : List String := (List.finRange 14).map fun a => mnemonic (writeInstr a 0)

/-- The address of a name in a list of names by address. -/
def nameAddr (names : List String) (t : List Char) : Option (Fin 14) :=
  (List.finRange 14).find? fun a => (names.map String.toList).getD a.val [] == t

/-- `<a|NAME>`: an implemented address or a register name (30_encoding R142). The rule gives no number form of the address; DESIGN
CHOICE (assumption log 20): decimal or `0x` hexadecimal. -/
def registerOf (t : List Char) : Except AsmError (Fin 14) :=
  match nameAddr registerNames t with
  | some a => .ok a
  | none =>
    match number 14 t with
    | .ok n => .ok (Fin.ofNat 14 n)
    | .error _ => .error .badName

/-- A channel letter of `WRPER`. -/
def channelOf (t : List Char) : Except AsmError (Fin 3) :=
  if t = ['A'] then .ok 0 else if t = ['B'] then .ok 1 else if t = ['C'] then .ok 2 else .error .badName

/-- The bytes of a list of tokens. -/
def byteList : List (List Char) → Except AsmError (List Byte)
  | [] => .ok []
  | t :: ts =>
    match number 256 t, byteList ts with
    | .ok n, .ok bs => .ok (BitVec.ofNat 8 n :: bs)
    | .error e, _ => .error e
    | _, .error e => .error e

/-- A write of the number `t` to register `a`. -/
def asmWrite (a : Fin 14) (t : List Char) : Except AsmError (List Instr) :=
  match number 256 t with
  | .ok n => .ok [writeInstr a (BitVec.ofNat 8 n)]
  | .error e => .error e

/-- A read of the register `t`. -/
def asmRead (t : List Char) : Except AsmError (List Instr) :=
  match registerOf t with
  | .ok a => .ok [.rd (BitVec.ofNat 4 a.val)]
  | .error e => .error e

/-- A line whose command is `name` and whose operands are `ops` (30_encoding R142, R143). R143 gives no number form of the periods
and of the count of `RUN`; DESIGN CHOICE (assumption log 20): decimal or `0x` hexadecimal. -/
def asmCommand (name : List Char) (ops : List (List Char)) : Except AsmError (List Instr) :=
  match nameAddr writeMnemonics name, ops with
  | some a, [t] => asmWrite a t
  | _, _ =>
    if name = "WR".toList then
      match ops with
      | [r, t] => match registerOf r with
        | .ok a => asmWrite a t
        | .error e => .error e
      | _ => .error .unknownCommand
    else if name = "RD".toList then
      match ops with
      | [r] => asmRead r
      | _ => .error .unknownCommand
    else if name = "STEP".toList then
      match ops with
      | [] => .ok [.step]
      | _ => .error .unknownCommand
    else if name = "WRPER".toList then
      match ops with
      | [c, t] => match channelOf c, number 4096 t with
        | .ok ch, .ok p => .ok (expandPseudo (.tonePeriod ch (BitVec.ofNat 12 p)))
        | .error e, _ => .error e
        | _, .error e => .error e
      | _ => .error .unknownCommand
    else if name = "WRENV".toList then
      match ops with
      | [t] => match number 65536 t with
        | .ok p => .ok (expandPseudo (.envPeriod (BitVec.ofNat 16 p)))
        | .error e => .error e
      | _ => .error .unknownCommand
    else if name = "WRROW".toList then
      match byteList ops with
      | .ok bs =>
        if bs.length = 14 then .ok (expandPseudo (.row (Vector.ofFn fun a => bs.getD a.val 0))) else .error .unknownCommand
      | .error e => .error e
    else if name = "RUN".toList then
      match ops with
      | [t] => match numberValue t with
        | some n => .ok (expandPseudo (.run n))
        | none => .error .badNumber
      | _ => .error .unknownCommand
    else .error .unknownCommand

/-- The words of one line of assembly (30_encoding R142, R143). -/
def assembleLine (line : List Char) : Except AsmError (List CmdWord) :=
  match tokens [] line with
  | [] => .ok []
  | name :: ops =>
    match asmCommand name ops with
    | .ok is => .ok (is.map encode)
    | .error e => .error e

end Sys2Proof.Machine
end

