-- ==== Sys2Proof/Machine/HostDecoder.lean ====
section
/-! DEFINITION. Machine/HostDecoder.lean: the external register-dump decoder's contract (60_exceptions R478 to R481). It is the
host's, outside the CORE: no step of the machine uses it. What the source leaves open of the header is in assumption log 19. -/

namespace Sys2Proof.Machine

/-- A decoded, decompressed stream (60_exceptions R479): the table holds `14 × frameCount` bytes, register by register. -/
structure Dump where
  dataOffset : Nat
  frameCount : Nat
  loopFrame : Nat
  clockRate : Nat
  frameRate : Nat
  trackName : List Byte
  authorName : List Byte
  table : List Byte
  deriving DecidableEq, Repr

/-- A decode error, on which the host writes no register (60_exceptions R481). -/
inductive DumpError where
  /-- The header or a string is cut short. -/
  | truncated
  /-- The table is shorter than `14 × F` bytes. -/
  | shortTable
  /-- `F = 0`. -/
  | noFrames
  /-- `LF ≥ F`. -/
  | loopOutOfRange
  /-- The frame index asked for is not below `F`. -/
  | frameOutOfRange
  deriving DecidableEq, Repr

/-- A little-endian 32-bit integer and the bytes after it (60_exceptions R479). -/
def readWord32 : List Byte → Except DumpError (Nat × List Byte)
  | b0 :: b1 :: b2 :: b3 :: rest =>
    .ok (b0.toNat + 2 ^ 8 * b1.toNat + 2 ^ 16 * b2.toNat + 2 ^ 24 * b3.toNat, rest)
  | _ => .error .truncated

/-- A byte string ending in one 0x00 byte, and the bytes after it (60_exceptions R479). -/
def readString : List Byte → Except DumpError (List Byte × List Byte)
  | [] => .error .truncated
  | b :: bs =>
    if b = 0 then .ok ([], bs)
    else match readString bs with
      | .ok (t, rest) => .ok (b :: t, rest)
      | .error e => .error e

/-- The decode error of a stream whose parts are read, if it has one (60_exceptions R481). -/
def dumpError (d : Dump) : Option DumpError :=
  if d.frameCount = 0 then some .noFrames
  else if d.frameCount ≤ d.loopFrame then some .loopOutOfRange
  else if d.table.length < 14 * d.frameCount then some .shortTable
  else none

/-- The stream with its table cut to its length, or its decode error (60_exceptions R479, R481). -/
def checkDump (d : Dump) : Except DumpError Dump :=
  match dumpError d with
  | some e => .error e
  | none => .ok { d with table := d.table.take (14 * d.frameCount) }

/-- The stream's parts and the decode errors of the header (60_exceptions R479, R481). -/
def parseDump (bytes : List Byte) : Except DumpError Dump := do
  let (offset, r1) ← readWord32 bytes
  let (frames, r2) ← readWord32 r1
  let (loopTo, r3) ← readWord32 r2
  let (clock, r4) ← readWord32 r3
  let (rate, r5) ← readWord32 r4
  let (track, r6) ← readString r5
  let (author, r7) ← readString r6
  checkDump
    { dataOffset := offset, frameCount := frames, loopFrame := loopTo, clockRate := clock, frameRate := rate,
      trackName := track, authorName := author, table := r7 }

/-- The decoder's state (60_exceptions R480). -/
structure DumpCursor where
  frame : Nat
  loops : Nat
  deriving DecidableEq, Repr

/-- The decoder's state at start: `fi = 0`, `loops = 0` (60_exceptions R480). -/
def startCursor : DumpCursor := { frame := 0, loops := 0 }

/-- The row of frame `f`: register `r` is table byte `r · F + f` (60_exceptions R479). -/
def frameRow (d : Dump) (f : Nat) : Vector Byte 14 := Vector.ofFn fun r => d.table.getD (r.val * d.frameCount + f) 0

/-- The decoder's state after the row of `c`: the wrap comes right after the advance (60_exceptions R480). -/
def advanceCursor (d : Dump) (c : DumpCursor) : DumpCursor :=
  if c.frame + 1 = d.frameCount then { frame := d.loopFrame, loops := c.loops + 1 }
  else { frame := c.frame + 1, loops := c.loops }

/-- `getNextFrame()`: the row of the present frame and the advanced state (60_exceptions R480); a stream with a decode error, and a
frame index out of range, give that error and no row (R481). -/
def nextFrame (d : Dump) (c : DumpCursor) : Except DumpError (Vector Byte 14 × DumpCursor) :=
  match dumpError d with
  | some e => .error e
  | none => if c.frame < d.frameCount then .ok (frameRow d c.frame, advanceCursor d c) else .error .frameOutOfRange

/-- One call of the host's frame routine over a stream: its moves, and the decoder's state after it. It writes the next row, byte `r`
to register `r` (60_exceptions R455, R479). On a decode error it issues no `WR_*` for that row (R481) and only returns (R470); that its
decoder then stays where it is, is assumption log 19. -/
def frameRoutineMoves (bytes : List Byte) (c : DumpCursor) : List HostEvent × DumpCursor :=
  match parseDump bytes with
  | .error _ => ([.frameReturn], c)
  | .ok d =>
    match nextFrame d c with
    | .error _ => ([.frameReturn], c)
    | .ok (row, c') => (rowRoutine row, c')

end Sys2Proof.Machine
end

