-- ==== Sys2Proof/Safety.lean ====
section
/-! DEFINITION. Safety.lean: what the claims are stated in: a valid configuration, the invariant of an instance, reserved words,
and the runs of single components (ticks, accumulators, filters) that the spec's derived rules are about. -/

namespace Sys2Proof.Machine

/-! ### The invariant -/

/-- What construction has checked of a configuration, as far as the run-time ranges rest on it (60_exceptions R442). -/
structure ConfigValid (c : Config) : Prop where
  taps : 1 ≤ c.taps
  m : 1 ≤ c.m
  kernel : c.h.length = kernelLength c
  biasN : 1 ≤ c.biasN
  atten : c.biasAtten.units ≠ 0
  outRate : Binary64.lt Binary64.zero c.outRate = true
  /-- `0 ≤ clock.step ≤ 1` (44_clock_step R322). -/
  clock :
    Binary64.le Binary64.zero (clockStepOf binary64 c.chipFreq c.outRate c.m) = true ∧
      Binary64.le (clockStepOf binary64 c.chipFreq c.outRate c.m) (binary64.int 1) = true
  /-- The frame increment is not negative (44_clock_step R323). -/
  frame : Binary64.le Binary64.zero (frameStepOf binary64 c.frameFreq c.outRate) = true
  dac0 : c.dac[0].units = 0
  dac1 : c.dac[1].units = 0

/-- A FIR state of the right size, its index in range, and every sample stored twice (46_fir R385, R386; 10_state R70). -/
structure FirValid (c : Config) (f : Fir Binary64) : Prop where
  size : f.buf.length = 2 * kernelLength c
  idx : f.idx < c.taps
  mirror : ∀ p, p < kernelLength c → f.buf[p]? = f.buf[p + kernelLength c]?

/-- A bias state of the right size with its index in range (10_state R54, R70). -/
structure BiasValid (c : Config) (b : Bias Binary64) : Prop where
  size : b.buf.length = c.biasN
  idx : b.idx < c.biasN

/-- The ranges of 10_state R70 and what the other rules keep true between commands. -/
structure Inv (s : State) : Prop where
  cfg : ConfigValid s.cfg
  tone : ∀ i : Fin 3, 1 ≤ s.tone[i].period ∧ s.tone[i].period ≤ 4095 ∧ s.tone[i].counter < s.tone[i].period
  noise : 1 ≤ s.noise.period ∧ s.noise.period ≤ 510 ∧ s.noise.counter < s.noise.period
  /-- The LFSR is never 0 (41_tone_noise R228). -/
  lfsr : s.noise.lfsr ≠ 0
  env : 1 ≤ s.env.period ∧ s.env.period ≤ 65535 ∧ s.env.counter < s.env.period
  firLeft : FirValid s.cfg s.fir.left
  firRight : FirValid s.cfg s.fir.right
  biasLeft : BiasValid s.cfg s.bias.left
  biasRight : BiasValid s.cfg s.bias.right
  /-- The clock increment is constant (44_clock_step R321). -/
  clockStep : s.clock.step = clockStepOf binary64 s.cfg.chipFreq s.cfg.outRate s.cfg.m
  /-- `clock.cycle ∈ [0, 1]` (44_clock_step R331). -/
  clockCycle :
    Binary64.le Binary64.zero s.clock.cycle = true ∧ Binary64.le s.clock.cycle (binary64.int 1) = true
  /-- `frame.cycle ∈ [0, 1]` with the remainder dropped (44_clock_step R331); with the remainder kept it has no upper bound. -/
  frameCycle :
    Binary64.le Binary64.zero s.frame.cycle = true ∧
      (s.cfg.frameRemainder = .drop → Binary64.le s.frame.cycle (binary64.int 1) = true)
  /-- The routine runs only where the host installed one, and with the accumulator cleared (60_exceptions R451, R454). -/
  routine : s.inFrameRoutine = true →
    s.frame.routine = .host ∧ (s.cfg.frameRemainder = .drop → s.frame.cycle = binary64.int 0)

/-- A run stays within what the spec gives a meaning as long as no command has been refused (10_state R62). -/
def Unrefused (s : State) : Prop := s.refused = false

/-! ### Commands -/

/-- The reserved words, as 30_encoding R139 lists them. -/
def Reserved (w : CmdWord) : Prop :=
  (clsField w ≠ 1 ∧ clsField w ≠ 2 ∧ clsField w ≠ 3)
    ∨ ((clsField w = 1 ∨ clsField w = 2) ∧ (addrField w = 14 ∨ addrField w = 15))
    ∨ (clsField w = 2 ∧ dataField w ≠ 0)
    ∨ (clsField w = 3 ∧ ¬(addrField w = 0 ∧ dataField w = 0))

/-- The state after register `a` has taken the byte `d`: nothing else but the answer changes (40_register_interface R160). -/
def afterWrite (a : Fin 14) (d : Byte) (s : State) : State := { s with x := s.x.set a d, response := .nothing }

/-- The command `i` stores `d` in register `a`, answers nothing, and changes nothing else (40_register_interface R160). -/
def StoresByte (i : Instr) (a : Fin 14) (d : Byte) (s : State) : Prop := exec i s = .next (afterWrite a d s)

/-- What the next `map()` makes of a state in which register `a` has just taken the byte `d`. -/
def mapAfter (a : Fin 14) (d : Byte) (s : State) : State := mapRegisters (afterWrite a d s)

/-- The bits of register `a` outside `m` are kept but have no effect on any derived field (10_state R57, R58). -/
def OnlyBitsMatter (a : Fin 14) (m d : Byte) (s : State) : Prop :=
  mapAfter a d s = { mapAfter a (d &&& m) s with x := (mapAfter a d s).x }

/-- `MASK` of 40_register_interface R161, as the rule's row of the table. -/
def maskRow (c : Config) : List Byte :=
  [0xFF, 0x0F, 0xFF, 0x0F, 0xFF, 0x0F, c.noiseMask, 0xFF, 0xFF, 0xFF, 0xFF, 0xFF, 0xFF, 0x0F]

/-- The bits of each register that any rule uses (10_state R41, R57, R58). -/
def usedBits (c : Config) : List Byte :=
  [0xFF, 0x0F, 0xFF, 0x0F, 0xFF, 0x0F, c.noiseMask, 0x3F, 0x1F, 0x1F, 0x1F, 0xFF, 0xFF, 0x0F]

/-- Two register files that agree on every used bit. -/
def SameUsedBits (c : Config) (x y : Vector Byte 14) : Prop :=
  ∀ a : Fin 14, x[a] &&& (usedBits c).getD a.val 0 = y[a] &&& (usedBits c).getD a.val 0

/-- `fine + 256 * (coarse mod 16)`, or 1 where that is 0: a tone period (40_register_interface R179). -/
def tonePeriodValue (fine coarse : Byte) : Nat :=
  if fine.toNat + 256 * (coarse.toNat % 16) = 0 then 1 else fine.toNat + 256 * (coarse.toNat % 16)

/-- Twice the masked register, or 1 where that is 0: a noise period (40_register_interface R180). -/
def noisePeriodValue (c : Config) (v : Byte) : Nat :=
  if (v &&& c.noiseMask).toNat = 0 then 1 else 2 * (v &&& c.noiseMask).toNat

/-- `fine + 256 * coarse`, or 1 where that is 0: an envelope period (40_register_interface R181). -/
def envPeriodValue (fine coarse : Byte) : Nat :=
  if fine.toNat + 256 * coarse.toNat = 0 then 1 else fine.toNat + 256 * coarse.toNat

/-- The step a restarted envelope of a class starts from: 31 for 0, 2, 4 and 0 for 1, 3, 5 (42_envelope R259). -/
def restartLevel : EnvClass → Fin 32
  | .class0 => 31
  | .class1 => 0
  | .class2 => 31
  | .class3 => 0
  | .class4 => 31
  | .class5 => 0

/-- A list of commands run one after another. -/
def execAll : List Instr → State → Host.Outcome State Fault Refusal
  | [], s => .next s
  | i :: is, s =>
    match exec i s with
    | .next t => execAll is t
    | .fault e => .fault e
    | .refused e => .refused e

/-! ### Components, run on their own -/

/-- `n` ticks of a tone channel whose period stays fixed (41_tone_noise R222). -/
def toneTicks (n : Nat) (t : Tone) : Tone := toneTick^[n] t

/-- `n` advances of the envelope (42_envelope R261). -/
def envAdvances (n : Nat) (e : Env) : Env := envAdvance^[n] e

/-- The envelope right after the shape `v` with the table's row has been seen as a change (42_envelope R252, R259). -/
def envRestarted (v : Fin 16) (e : Env) : Env := envChange (envClassifyRow envClassTable[v] v e)

/-- The clock accumulator after `k` iterations from `c`, and how many of them ticked (44_clock_step R328). -/
def clockRun {α : Type} (A : Arith α) (st : α) : Nat → α → α × Nat
  | 0, c => (c, 0)
  | k + 1, c =>
    let r := clockAdvance A c st
    let q := clockRun A st k r.1
    (q.1, q.2 + r.2.toNat)

/-- Whether each of `k` STEPs from accumulator `c` raises the frame event, in order (44_clock_step R329). -/
def frameRun {α : Type} (A : Arith α) (rem : FrameRemainder) (fs : α) : Nat → α → List Bool
  | 0, _ => []
  | k + 1, c =>
    let r := frameAdvance A rem c fs
    r.2 :: frameRun A rem fs k r.1

/-- The outputs of one FIR fed the blocks `bs`, in order (46_fir R387). -/
def firRun {α : Type} (A : Arith α) (taps m : Nat) (h : List α) : List (List α) → Fir α → List α
  | [], _ => []
  | b :: bs, f =>
    let r := firStep A taps m h f b
    r.2 :: firRun A taps m h bs r.1

/-- A FIR state at construction (10_state R80). -/
def firZero {α : Type} (A : Arith α) (taps m : Nat) : Fir α :=
  { buf := List.replicate (2 * (taps * m)) (A.int 0), idx := 0 }

/-- `y(n) = Σ_{k=0}^{L-1} H[k] · s[nM + M − 1 − k]` over the stream `s` of all inputs, 0 before the first (46_fir R387). -/
def convolution {α : Type} (A : Arith α) (taps m : Nat) (h stream : List α) (n : Nat) : α :=
  (List.range (taps * m)).foldl
    (fun y k => A.add y (A.mul (h.getD k (A.int 0))
      (if k ≤ n * m + m - 1 then stream.getD (n * m + m - 1 - k) (A.int 0) else A.int 0))) (A.int 0)

/-- The state and the outputs of one bias filter fed the inputs `vs` (47_bias R423). -/
def biasRun {α : Type} (A : Arith α) (n : Nat) (atten : α) : List α → Bias α → Bias α × List α
  | [], b => (b, [])
  | v :: vs, b =>
    let r := biasStep A n atten b v
    let q := biasRun A n atten vs r.1
    (q.1, r.2 :: q.2)

/-- A bias state at construction (10_state R80). -/
def biasZero {α : Type} (A : Arith α) (n : Nat) : Bias α :=
  { buf := List.replicate n (A.int 0), sum := A.int 0, idx := 0 }

/-- `r` is the finite datum nearest to the exact value `v`, with an even significand where another is as near (00_scope R20). -/
def NearestEven (r : Binary64) (v : ℚ) : Prop :=
  r.isFinite = true ∧ ∀ c : Binary64, c.isFinite = true →
    |r.toRat - v| ≤ |c.toRat - v| ∧ (|r.toRat - v| = |c.toRat - v| → c.toRat = r.toRat ∨ r.fracField % 2 = 0)

/-- `r` is the datum an operation with exact result `v` gives: the nearest one, or the infinity of its sign where `v` is at or
above the rounding bound of the largest finite datum (00_scope R20). -/
def Rounds (r : Binary64) (v : ℚ) : Prop :=
  (|v| < 2 ^ 1024 - 2 ^ 970 → NearestEven r v) ∧
    (2 ^ 1024 - 2 ^ 970 ≤ |v| → r.isInf = true ∧ r.sign = decide (v < 0))

/-- The decoder's state after `n` calls of `getNextFrame` from its start, or the first decode error (60_exceptions R480, R481). -/
def framesAfter (d : Dump) : Nat → Except DumpError DumpCursor
  | 0 => .ok startCursor
  | n + 1 =>
    match framesAfter d n with
    | .error e => .error e
    | .ok c =>
      match nextFrame d c with
      | .error e => .error e
      | .ok r => .ok r.2

/-! ### Construction -/

/-- A row of the classification table as the host writes it: the offset 0 to 5, and the transient 0, 31 or none (42_envelope
R251). -/
def rowNumbers (r : EnvRow) : Int × Option Int :=
  (match r.offset with
    | .class0 => 0
    | .class1 => 1
    | .class2 => 2
    | .class3 => 3
    | .class4 => 4
    | .class5 => 5,
   match r.transient with
    | none => none
    | some .low => some 0
    | some .high => some 31)

/-- When the check of each construction error fails (60_exceptions R442; `FIR_RATE` is the given one, else `OUT_RATE × M`, 00_scope R7; 44_clock_step R322 for check 7; `FIR_RATE` and an increment
that is no number: assumption log 11). -/
def FailsWhen (c : RawConfig) : ConfigError → Prop
  | .nonfinite =>
    ¬(c.chipFreq.isFinite ∧ c.outRate.isFinite ∧ c.frameFreq.isFinite ∧ c.firCutoff.isFinite ∧ c.biasAtten.isFinite
      ∧ (c.firRate.getD (Binary64.mul c.outRate (binary64.int c.m))).isFinite ∧ (∀ i : Fin 3, c.pan[i].isFinite)
      ∧ (∀ k : Fin 32, c.dac[k].isFinite) ∧ ∀ h, c.kernel = some h → ∀ v ∈ h, v.isFinite)
  | .paramDomain =>
    (c.lfsrFbPos ≠ 15 ∧ c.lfsrFbPos ≠ 16) ∨ c.noiseMask < 0 ∨ 255 < c.noiseMask ∨ c.interpForm = .other
      ∨ ∃ k : Fin 16, c.envClass[k].1 < 0 ∨ 5 < c.envClass[k].1
        ∨ ∃ t, c.envClass[k].2 = some t ∧ t ≠ 0 ∧ t ≠ 31
  | .tapsZero => c.taps = 0
  | .mZero => c.m = 0
  | .rateNonpositive =>
    Binary64.le c.outRate Binary64.zero = true
      ∨ (c.kernel = none ∧ Binary64.le (c.firRate.getD (Binary64.mul c.outRate (binary64.int c.m))) Binary64.zero = true)
  | .negativeFreq => Binary64.lt c.chipFreq Binary64.zero = true ∨ Binary64.lt c.frameFreq Binary64.zero = true
  | .clockTooFast =>
    Binary64.le
      (Binary64.div (Binary64.div (Binary64.mul c.chipFreq (binary64.ratio 1 8)) c.outRate) (binary64.int c.m))
      (binary64.int 1) = false
  | .kernelLength => ∃ h, c.kernel = some h ∧ h.length ≠ c.taps * c.m
  | .genL1 => c.kernel = none ∧ c.taps * c.m < 2
  | .cutoffNonpositive => c.kernel = none ∧ Binary64.le c.firCutoff Binary64.zero = true
  | .cutoffNyquist =>
    c.kernel = none
      ∧ Binary64.le (Binary64.div (c.firRate.getD (Binary64.mul c.outRate (binary64.int c.m))) (binary64.int 2)) c.firCutoff = true
  | .biasNZero => c.biasN = 0
  | .attenZero => c.biasAtten.units = 0
  | .dacZeroEntries => c.dac[0].units ≠ 0 ∨ c.dac[1].units ≠ 0

end Sys2Proof.Machine
end

