-- ==== Sys2Proof/Certificates/Slice0/Obligations.lean ====
section
/-! DEFINITION. Certificates/Slice0/Obligations.lean: the statements for the provers. Each docstring says which rule of spec/ it
formalises. -/

open Sys2Proof Sys2Proof.Machine

/-! ### Command words -/

/-- 30_encoding R134, R135, R136: the words of the three formats; one write per address. -/
def Obligations.CommandWordFormats : Prop :=
  (∀ (a : Fin 14) (d : Byte), encode (writeInstr a d) = 0x1000 ||| (BitVec.ofNat 16 a.val <<< 8) ||| d.zeroExtend 16) ∧
  (∀ (a b : Fin 14) (d : Byte), writeInstr a d = writeInstr b d → a = b) ∧
  (∀ a : RegAddr, encode (.rd a) = 0x2000 ||| (a.zeroExtend 16 <<< 8)) ∧
  encode .step = 0x3000

/-- 30_encoding R130 to R138: decoding the word of any well-formed command gives that command, with every operand. -/
def Obligations.DecodeOfEncodeIsIdentity : Prop :=
  ∀ i : Instr, i.wellFormed = true → decode (encode i) = .ok i

/-- 30_encoding R138: the decoder accepts only words of well-formed commands, each the one word of its command. -/
def Obligations.DecodedWordsAreEncodings : Prop :=
  ∀ (w : CmdWord) (i : Instr), decode w = .ok i → i.wellFormed = true ∧ encode i = w

/-- 30_encoding R138: the decoder is the opcode map, and no two rows match the same word. -/
def Obligations.DecoderFollowsTheOpcodeMap : Prop :=
  (∀ (w : CmdWord) (i : Instr), decode w = .ok i → ∃ r ∈ opcodeMap, rowMatches r w = true ∧ r.mnemonic = mnemonic i) ∧
  (∀ w : CmdWord, ∀ r ∈ opcodeMap, rowMatches r w = true → ∃ i, decode w = .ok i ∧ mnemonic i = r.mnemonic) ∧
  (∀ w : CmdWord, ∀ r ∈ opcodeMap, ∀ q ∈ opcodeMap, rowMatches r w = true → rowMatches q w = true → r = q)

/-- 30_encoding R139: the reserved words are those that match no row; each sets the refusal mark and changes no other state (the
host gets the reason, assumption log 7). -/
def Obligations.ReservedWordsAreRefused : Prop :=
  ∀ w : CmdWord,
    (Reserved w ↔ ∀ r ∈ opcodeMap, rowMatches r w = false) ∧
    ∀ (s : State) (rest : List HostEvent), s.inputs = .command w :: rest → Reserved w →
      step s = .next { s with inputs := rest, refused := true, response := .refusal .reservedCommand }

/-- 95_test_vectors V-ENC1: words written out from the encoding decode to the commands they stand for. -/
def Obligations.SpecWordsDecode : Prop :=
  decode 0x10C8 = .ok (.wrAfine 0xC8) ∧ decode 0x1100 = .ok (.wrAcoarse 0x00) ∧ decode 0x1601 = .ok (.wrNoise 0x01) ∧
  decode 0x173E = .ok (.wrMixer 0x3E) ∧ decode 0x18FF = .ok (.wrAvol 0xFF) ∧ decode 0x1D0E = .ok (.wrEshape 0x0E) ∧
  decode 0x2000 = .ok (.rd 0) ∧ decode 0x2D00 = .ok (.rd 13) ∧ decode 0x3000 = .ok .step

/-- 20_memory R111: a step takes the host's next command word and is `exec` of the command it decodes to. Around `exec` the step
only removes that move from the queue. -/
def Obligations.StepRunsTheDecodedCommand : Prop :=
  (∀ (s : State) (w : CmdWord) (rest : List HostEvent) (i : Instr),
    s.inputs = .command w :: rest → decode w = .ok i → step s = exec i { s with inputs := rest }) ∧
  (∀ (s : State) (nbits w : Nat) (i : Instr),
    decodeTableWord nbits w = some i → step (s.withFetchWord nbits w) = exec i s)

/-! ### Register writes and reads -/

/-- 40_register_interface R163 to R168: the six tone-period writes: the word, the stored byte and nothing else, what is read back,
and the period the next `map()` derives. -/
def Obligations.TonePeriodWrites : Prop :=
  ∀ (s : State) (d : Byte),
    (encode (.wrAfine d) = 0x1000 ||| d.zeroExtend 16 ∧ StoresByte (.wrAfine d) 0 d s ∧
      (mapAfter 0 d s).tone[0].period = tonePeriodValue d s.x[1]) ∧
    (encode (.wrAcoarse d) = 0x1100 ||| d.zeroExtend 16 ∧ StoresByte (.wrAcoarse d) 1 d s ∧
      (mapAfter 1 d s).x[1] = d &&& 0x0F ∧ readReg 1 (afterWrite 1 d s) = d &&& 0x0F ∧
      (mapAfter 1 d s).tone[0].period = tonePeriodValue s.x[0] d) ∧
    (encode (.wrBfine d) = 0x1200 ||| d.zeroExtend 16 ∧ StoresByte (.wrBfine d) 2 d s ∧
      (mapAfter 2 d s).tone[1].period = tonePeriodValue d s.x[3]) ∧
    (encode (.wrBcoarse d) = 0x1300 ||| d.zeroExtend 16 ∧ StoresByte (.wrBcoarse d) 3 d s ∧
      (mapAfter 3 d s).x[3] = d &&& 0x0F ∧ readReg 3 (afterWrite 3 d s) = d &&& 0x0F ∧
      (mapAfter 3 d s).tone[1].period = tonePeriodValue s.x[2] d) ∧
    (encode (.wrCfine d) = 0x1400 ||| d.zeroExtend 16 ∧ StoresByte (.wrCfine d) 4 d s ∧
      (mapAfter 4 d s).tone[2].period = tonePeriodValue d s.x[5]) ∧
    (encode (.wrCcoarse d) = 0x1500 ||| d.zeroExtend 16 ∧ StoresByte (.wrCcoarse d) 5 d s ∧
      (mapAfter 5 d s).x[5] = d &&& 0x0F ∧ readReg 5 (afterWrite 5 d s) = d &&& 0x0F ∧
      (mapAfter 5 d s).tone[2].period = tonePeriodValue s.x[4] d)

/-- 40_register_interface R169, R170: the noise-period and mixer writes. Mixer bits 6 and 7 are kept and read back, with no effect;
0x3F opens every gate for good. -/
def Obligations.NoiseAndMixerWrites : Prop :=
  ∀ (s : State) (d : Byte),
    (encode (.wrNoise d) = 0x1600 ||| d.zeroExtend 16 ∧ StoresByte (.wrNoise d) 6 d s ∧
      (mapAfter 6 d s).noise.period = noisePeriodValue s.cfg d) ∧
    (encode (.wrMixer d) = 0x1700 ||| d.zeroExtend 16 ∧ StoresByte (.wrMixer d) 7 d s ∧
      readReg 7 (afterWrite 7 d s) = d ∧ OnlyBitsMatter 7 0x3F d s ∧
      (∀ i : Fin 3,
        (mapAfter 7 d s).chan[i].toneOff = d.getLsbD i.val ∧
        (mapAfter 7 d s).chan[i].noiseOff = d.getLsbD (3 + i.val)) ∧
      (d = 0x3F → ∀ (i : Fin 3) (toneBit noiseBit : Bool),
        gateBit toneBit (mapAfter 7 d s).chan[i].toneOff noiseBit (mapAfter 7 d s).chan[i].noiseOff = true))

/-- 40_register_interface R171, R172, R173: the three volume writes. All eight bits are kept and read back, bits 5 to 7 with no
effect; bit 4 selects the envelope, and then the volume is ignored by the DAC index. -/
def Obligations.VolumeWrites : Prop :=
  ∀ (s : State) (d : Byte),
    (encode (.wrAvol d) = 0x1800 ||| d.zeroExtend 16 ∧ StoresByte (.wrAvol d) 8 d s ∧
      readReg 8 (afterWrite 8 d s) = d ∧ OnlyBitsMatter 8 0x1F d s ∧
      (mapAfter 8 d s).chan[0].volume.val = d.toNat % 16 ∧
      (mapAfter 8 d s).chan[0].envFlag = !d.getLsbD 4 ∧
      ∀ e : Fin 32, (dacIndex (mapAfter 8 d s).chan[0] e).val =
        if d.getLsbD 4 then e.val else d.toNat % 16 * 2 + 1) ∧
    (encode (.wrBvol d) = 0x1900 ||| d.zeroExtend 16 ∧ StoresByte (.wrBvol d) 9 d s ∧
      readReg 9 (afterWrite 9 d s) = d ∧ OnlyBitsMatter 9 0x1F d s ∧
      (mapAfter 9 d s).chan[1].volume.val = d.toNat % 16 ∧
      (mapAfter 9 d s).chan[1].envFlag = !d.getLsbD 4 ∧
      ∀ e : Fin 32, (dacIndex (mapAfter 9 d s).chan[1] e).val =
        if d.getLsbD 4 then e.val else d.toNat % 16 * 2 + 1) ∧
    (encode (.wrCvol d) = 0x1A00 ||| d.zeroExtend 16 ∧ StoresByte (.wrCvol d) 10 d s ∧
      readReg 10 (afterWrite 10 d s) = d ∧ OnlyBitsMatter 10 0x1F d s ∧
      (mapAfter 10 d s).chan[2].volume.val = d.toNat % 16 ∧
      (mapAfter 10 d s).chan[2].envFlag = !d.getLsbD 4 ∧
      ∀ e : Fin 32, (dacIndex (mapAfter 10 d s).chan[2] e).val =
        if d.getLsbD 4 then e.val else d.toNat % 16 * 2 + 1)

/-- 40_register_interface R174, R175, R176: the envelope writes: the period, which resets no counter, and for the shape the
classification and the restart that the next `map()` makes. -/
def Obligations.EnvelopeWrites : Prop :=
  ∀ (s : State) (d : Byte),
    (encode (.wrEfine d) = 0x1B00 ||| d.zeroExtend 16 ∧ StoresByte (.wrEfine d) 11 d s ∧
      (mapAfter 11 d s).env.period = envPeriodValue d s.x[12] ∧
      (s.x[13].toNat % 16 = s.env.store.val → (mapAfter 11 d s).env.counter = s.env.counter) ∧
      ((mapAfter 11 d s).env.period ≤ (mapAfter 11 d s).env.counter →
        envTick (mapAfter 11 d s).env = envAdvance { (mapAfter 11 d s).env with counter := 0 })) ∧
    (encode (.wrEcoarse d) = 0x1C00 ||| d.zeroExtend 16 ∧ StoresByte (.wrEcoarse d) 12 d s ∧
      (mapAfter 12 d s).env.period = envPeriodValue s.x[11] d) ∧
    (encode (.wrEshape d) = 0x1D00 ||| d.zeroExtend 16 ∧ StoresByte (.wrEshape d) 13 d s ∧
      (mapAfter 13 d s).x[13] = d &&& 0x0F ∧
      (mapAfter 13 d s).env.shape.val = d.toNat % 16 ∧
      (mapAfter 13 d s).env.offset = (s.cfg.envClass[d.toNat % 16]).offset ∧
      (mapAfter 13 d s).env.transient = ((s.cfg.envClass[d.toNat % 16]).transient).getD s.env.transient ∧
      (d.toNat % 16 ≠ s.env.store.val →
        (mapAfter 13 d s).env.strobe = false ∧ (mapAfter 13 d s).env.counter = 0 ∧
        (mapAfter 13 d s).env.step = restartLevel (s.cfg.envClass[d.toNat % 16]).offset) ∧
      (d.toNat % 16 = s.env.store.val →
        (mapAfter 13 d s).env.strobe = s.env.strobe ∧ (mapAfter 13 d s).env.counter = s.env.counter ∧
        (mapAfter 13 d s).env.step = s.env.step))

/-- 40_register_interface R162: RD returns the masked byte and changes no state but the answer; the result is the same before and
after a `map()`; it is 0 after construction; address 14 or 15, or a non-zero data field, is refused at decode. -/
def Obligations.ReadReturnsTheMaskedByte : Prop :=
  (∀ (s : State) (a : Fin 14),
    encode (.rd (BitVec.ofNat 4 a.val)) = 0x2000 ||| (BitVec.ofNat 16 a.val <<< 8) ∧
    exec (.rd (BitVec.ofNat 4 a.val)) s = .next { s with response := .byte (s.x[a] &&& (maskRow s.cfg).getD a.val 0) } ∧
    readReg a (mapRegisters s) = s.x[a] &&& (maskRow s.cfg).getD a.val 0) ∧
  (∀ (c : Config) (r : Routine) (a : Fin 14),
    exec (.rd (BitVec.ofNat 4 a.val)) (State.initial c r) = .next { State.initial c r with response := .byte 0 }) ∧
  (∀ w : CmdWord, clsField w = 2 → (13 < (addrField w).toNat ∨ dataField w ≠ 0) → ∃ e, decode w = .error e)

/-- 40_register_interface R160: every write stores its byte, unmasked, and does nothing else; and then (70_reset R508) a read of
the register returns the masked new byte, of another what it returned before. -/
def Obligations.WritesStoreAndReadBack : Prop :=
  ∀ (s : State) (a b : Fin 14) (d : Byte),
    exec (writeInstr a d) s = .next (afterWrite a d s) ∧
    exec (.rd (BitVec.ofNat 4 b.val)) (afterWrite a d s) =
      .next { afterWrite a d s with
        response := .byte ((if b = a then d else s.x[b]) &&& (maskRow s.cfg).getD b.val 0) }

/-- 30_encoding R139 on the ill-formed read terms, which no word decodes to: the model's reading (assumption log 21). -/
def Obligations.ReadOfAnUnimplementedAddressIsRefused : Prop :=
  ∀ (s : State) (a : RegAddr), Instr.wellFormed (.rd a) = false →
    exec (.rd a) s = .next { s with refused := true, response := .refusal .reservedCommand }

/-- 20_memory R108: a byte written twice leaves the state of one write, and one that is overwritten leaves no trace; a rewrite of
the current shape restarts nothing, and a write of a different shape followed by the original is invisible. -/
def Obligations.RepeatedWritesLeaveNoTrace : Prop :=
  ∀ (s : State) (a : Fin 14) (d d' : Byte),
    execAll [writeInstr a d, writeInstr a d] s = execAll [writeInstr a d] s ∧
    execAll [writeInstr a d', writeInstr a d] s = execAll [writeInstr a d] s ∧
    execAll [.wrEshape d', .wrEshape s.x[13]] s = .next { s with response := .nothing } ∧
    (d.toNat % 16 = s.env.store.val →
      (mapAfter 13 d s).env.strobe = s.env.strobe ∧ (mapAfter 13 d s).env.counter = s.env.counter ∧
      (mapAfter 13 d s).env.step = s.env.step)

/-! ### The register decode -/

/-- 40_register_interface R178 to R184: every field `map()` derives, and what it leaves alone. -/
def Obligations.MapDerivesTheFields : Prop :=
  ∀ s : State,
    (∀ a : Fin 14, (mapRegisters s).x[a] = s.x[a] &&& (maskRow s.cfg).getD a.val 0 ∧
      readReg a (mapRegisters s) = readReg a s) ∧
    (∀ i : Fin 3, (mapRegisters s).tone[i] =
      { s.tone[i] with period := tonePeriodValue s.x[fineAddr i] s.x[coarseAddr i] }) ∧
    (mapRegisters s).noise = { s.noise with period := noisePeriodValue s.cfg s.x[6] } ∧
    (mapRegisters s).env.period = envPeriodValue s.x[11] s.x[12] ∧
    (∀ i : Fin 3,
      (mapRegisters s).chan[i].volume.val = s.x[volumeAddr i].toNat % 16 ∧
      (mapRegisters s).chan[i].toneOff = s.x[7].getLsbD i.val ∧
      (mapRegisters s).chan[i].noiseOff = s.x[7].getLsbD (3 + i.val) ∧
      (mapRegisters s).chan[i].envFlag = !s.x[volumeAddr i].getLsbD 4) ∧
    (mapRegisters s).cfg = s.cfg ∧ (mapRegisters s).clock = s.clock ∧ (mapRegisters s).frame = s.frame ∧
    (mapRegisters s).interp = s.interp ∧ (mapRegisters s).fir = s.fir ∧ (mapRegisters s).bias = s.bias ∧
    (mapRegisters s).refused = s.refused ∧ (mapRegisters s).inFrameRoutine = s.inFrameRoutine ∧
    (mapRegisters s).inputs = s.inputs ∧ (mapRegisters s).response = s.response

/-- 40_register_interface R186: running `map()` twice with no write between leaves the same state as running it once. -/
def Obligations.MapTwiceIsMapOnce : Prop :=
  ∀ s : State, mapRegisters (mapRegisters s) = mapRegisters s

/-- 42_envelope R251, R252, R253: with the source's table, the class and the transient of every shape; four shapes leave the
transient as it was. -/
def Obligations.MapClassifiesTheShape : Prop :=
  ∀ s : State, s.cfg.envClass = envClassTable →
    (mapRegisters s).env.shape.val = s.x[13].toNat % 16 ∧
    (s.x[13].toNat % 16 ∈ [0, 1, 2, 3, 9] →
      (mapRegisters s).env.offset = .class0 ∧ (mapRegisters s).env.transient = .low) ∧
    (s.x[13].toNat % 16 = 11 → (mapRegisters s).env.offset = .class0 ∧ (mapRegisters s).env.transient = .high) ∧
    (s.x[13].toNat % 16 ∈ [4, 5, 6, 7, 15] →
      (mapRegisters s).env.offset = .class1 ∧ (mapRegisters s).env.transient = .low) ∧
    (s.x[13].toNat % 16 = 13 → (mapRegisters s).env.offset = .class1 ∧ (mapRegisters s).env.transient = .high) ∧
    (s.x[13].toNat % 16 = 8 →
      (mapRegisters s).env.offset = .class2 ∧ (mapRegisters s).env.transient = s.env.transient) ∧
    (s.x[13].toNat % 16 = 12 →
      (mapRegisters s).env.offset = .class3 ∧ (mapRegisters s).env.transient = s.env.transient) ∧
    (s.x[13].toNat % 16 = 10 →
      (mapRegisters s).env.offset = .class4 ∧ (mapRegisters s).env.transient = s.env.transient) ∧
    (s.x[13].toNat % 16 = 14 →
      (mapRegisters s).env.offset = .class5 ∧ (mapRegisters s).env.transient = s.env.transient)

/-- 42_envelope R259: a masked raw shape other than the stored one restarts the envelope with the new class; the stored one does
not. -/
def Obligations.ShapeChangeRestartsTheEnvelope : Prop :=
  ∀ s : State,
    (s.x[13].toNat % 16 ≠ s.env.store.val →
      (mapRegisters s).env.store = (mapRegisters s).env.shape ∧ (mapRegisters s).env.strobe = false ∧
      (mapRegisters s).env.counter = 0 ∧
      (mapRegisters s).env.step = restartLevel (s.cfg.envClass[s.x[13].toNat % 16]).offset) ∧
    (s.x[13].toNat % 16 = s.env.store.val →
      (mapRegisters s).env.store = s.env.store ∧ (mapRegisters s).env.strobe = s.env.strobe ∧
      (mapRegisters s).env.counter = s.env.counter ∧ (mapRegisters s).env.step = s.env.step)

/-! ### Oscillators -/

/-- 41_tone_noise R221: one tick of a tone channel. -/
def Obligations.ToneTickFlipsAtThePeriod : Prop :=
  ∀ t : Tone,
    (t.period ≤ t.counter + 1 → toneTick t = { counter := 0, port := !t.port, period := t.period }) ∧
    (t.counter + 1 < t.period → toneTick t = { counter := t.counter + 1, port := t.port, period := t.period })

/-- 41_tone_noise R222: with a constant period P the port holds each value for exactly P ticks, the first flip at tick P. -/
def Obligations.ToneIsASquareWave : Prop :=
  ∀ (p n : Nat) (b : Bool), 1 ≤ p →
    toneTicks n { counter := 0, port := b, period := p } =
      { counter := n % p, port := xor b (decide (n / p % 2 = 1)), period := p }

/-- 41_tone_noise R224, R227: one tick of the noise channel, and its output. -/
def Obligations.NoiseTickShiftsAtThePeriod : Prop :=
  ∀ (p : LfsrFbPos) (n : Noise),
    (n.period ≤ n.counter + 1 → noiseTick p n = { counter := 0, period := n.period, lfsr := lfsrNext p n.lfsr }) ∧
    (n.counter + 1 < n.period → noiseTick p n = { counter := n.counter + 1, period := n.period, lfsr := n.lfsr }) ∧
    noisePort (noiseTick p n) = (noiseTick p n).lfsr.getLsbD 0

/-- 41_tone_noise R225: every bit of the next LFSR state, for both feedback positions. -/
def Obligations.LfsrNextStateBits : Prop :=
  ∀ (s : BitVec 17) (k : Nat), k < 17 →
    (lfsrNext .pos16 s).getLsbD k = (if k = 16 then xor (s.getLsbD 0) (s.getLsbD 3) else s.getLsbD (k + 1)) ∧
    (lfsrNext .pos15 s).getLsbD k =
      (if k = 16 then false
       else if k = 15 then s.getLsbD 16 || xor (s.getLsbD 0) (s.getLsbD 3)
       else s.getLsbD (k + 1))

/-- From 41_tone_noise R228: a non-zero LFSR state never becomes 0, over any number of shifts. -/
def Obligations.LfsrNeverReachesZero : Prop :=
  ∀ (p : LfsrFbPos) (s : BitVec 17) (n : Nat), s ≠ 0 → (lfsrNext p)^[n] s ≠ 0

/-- From 41_tone_noise R225, R228: LFSR_NEXT is a bijection on 17-bit states at feedback position 16. At position 15 it is one
only on the states with bit 16 clear, the states at rest (assumption log 14). -/
def Obligations.LfsrInjectivity : Prop :=
  Function.Bijective (lfsrNext .pos16) ∧ ¬Function.Injective (lfsrNext .pos15) ∧
  (∀ s t : BitVec 17, s.getLsbD 16 = false → t.getLsbD 16 = false → lfsrNext .pos15 s = lfsrNext .pos15 t → s = t)

/-- 41_tone_noise R229: the number of shifts after which the state first recurs from seed 1. -/
def Obligations.LfsrPeriods : Prop :=
  ((lfsrNext .pos16)^[131071] 1 = 1 ∧ ∀ k, 0 < k → k < 131071 → (lfsrNext .pos16)^[k] 1 ≠ 1) ∧
  ((lfsrNext .pos15)^[57337] 1 = 1 ∧ ∀ k, 0 < k → k < 57337 → (lfsrNext .pos15)^[k] 1 ≠ 1)

/-! ### The envelope -/

/-- 42_envelope R254 to R258: the dispatched step function at every class and strobe, inside the ramp and at its boundary. -/
def Obligations.EnvelopeStepFunctions : Prop :=
  (∀ e : Env, (e.offset = .class0 ∨ e.offset = .class1) → e.strobe = true → envAdvance e = e) ∧
  (∀ e : Env,
    (e.offset = .class0 ∧ e.strobe = false) ∨ e.offset = .class2 ∨ (e.offset = .class4 ∧ e.strobe = false) ∨
        (e.offset = .class5 ∧ e.strobe = true) →
      envAdvance e = envDecay e) ∧
  (∀ e : Env,
    (e.offset = .class1 ∧ e.strobe = false) ∨ e.offset = .class3 ∨ (e.offset = .class4 ∧ e.strobe = true) ∨
        (e.offset = .class5 ∧ e.strobe = false) →
      envAdvance e = envGrow e) ∧
  (∀ (e : Env) (h : e.step.val < 31), envGrow e = { e with step := ⟨e.step.val + 1, by omega⟩ }) ∧
  (∀ e : Env, e.step.val = 31 → envGrow e = envReset { e with strobe := !e.strobe }) ∧
  (∀ e : Env, 0 < e.step.val → envDecay e = { e with step := ⟨e.step.val - 1, by omega⟩ }) ∧
  (∀ e : Env, e.step.val = 0 → envDecay e = envReset { e with strobe := !e.strobe }) ∧
  (∀ e : Env, (e.offset = .class0 ∨ e.offset = .class4) →
    envReset e = { e with step := if e.strobe then transientLevel e.transient else 31 }) ∧
  (∀ e : Env, (e.offset = .class1 ∨ e.offset = .class5) →
    envReset e = { e with step := if e.strobe then transientLevel e.transient else 0 }) ∧
  (∀ e : Env, e.offset = .class2 → envReset e = { e with step := 31 }) ∧
  (∀ e : Env, e.offset = .class3 → envReset e = { e with step := 0 })

/-- 42_envelope R260: the envelope advances at every tick whose incremented counter reaches the period, and at no other; after a
restart the first advance comes at the period-th tick. -/
def Obligations.EnvelopeTickAdvancesAtThePeriod : Prop :=
  (∀ e : Env,
    (e.period ≤ e.counter + 1 → envTick e = envAdvance { e with counter := 0 }) ∧
    (e.counter + 1 < e.period → envTick e = { e with counter := e.counter + 1 })) ∧
  (∀ (e : Env) (n : Nat), e.counter = 0 → n < e.period →
    envTick^[n] e = { e with counter := n } ∧ (n + 1 = e.period → envTick^[n + 1] e = envAdvance e))

/-- 42_envelope R261: the output and the strobe of every shape, counted in advances from a restart; of shapes 10 and 14 the first
half-cycle. -/
def Obligations.EnvelopeShapeTraces : Prop :=
  ∀ (v : Fin 16) (e : Env) (n : Nat), v ≠ e.store →
    let r := envAdvances n (envRestarted v e)
    (v.val ∈ [0, 1, 2, 3, 9] → (r.step.val = if n ≤ 31 then 31 - n else 0) ∧ r.strobe = decide (32 ≤ n)) ∧
    (v.val = 11 → (r.step.val = if n ≤ 31 then 31 - n else 31) ∧ r.strobe = decide (32 ≤ n)) ∧
    (v.val ∈ [4, 5, 6, 7, 15] → (r.step.val = if n ≤ 31 then n else 0) ∧ r.strobe = decide (32 ≤ n)) ∧
    (v.val = 13 → (r.step.val = if n ≤ 31 then n else 31) ∧ r.strobe = decide (32 ≤ n)) ∧
    (v.val = 8 → r.step.val = 31 - n % 32 ∧ r.strobe = decide (n / 32 % 2 = 1)) ∧
    (v.val = 12 → r.step.val = n % 32 ∧ r.strobe = decide (n / 32 % 2 = 1)) ∧
    (v.val = 10 → n ≤ 32 →
      (r.step.val = if n = 32 then (transientLevel e.transient).val else 31 - n) ∧ r.strobe = decide (n = 32)) ∧
    (v.val = 14 → n ≤ 32 →
      (r.step.val = if n = 32 then (transientLevel e.transient).val else n) ∧ r.strobe = decide (n = 32))

/-- 42_envelope R262: shapes 10 and 14 depend on the retained transient: triangles of period 64 and sawtooths of period 33. -/
def Obligations.EnvelopeHistoryDependentTraces : Prop :=
  ∀ (e : Env) (n : Nat),
    (e.store ≠ 10 → e.transient = .low →
      ((envAdvances n (envRestarted 10 e)).step.val = if n % 64 < 32 then 31 - n % 64 else n % 64 - 32) ∧
      (envAdvances n (envRestarted 10 e)).strobe = decide (32 ≤ n % 64)) ∧
    (e.store ≠ 10 → e.transient = .high →
      ((envAdvances n (envRestarted 10 e)).step.val = if n % 33 = 32 then 31 else 31 - n % 33) ∧
      (envAdvances n (envRestarted 10 e)).strobe = decide (n % 33 = 32)) ∧
    (e.store ≠ 14 → e.transient = .high →
      ((envAdvances n (envRestarted 14 e)).step.val = if n % 64 < 32 then n % 64 else 63 - n % 64) ∧
      (envAdvances n (envRestarted 14 e)).strobe = decide (32 ≤ n % 64)) ∧
    (e.store ≠ 14 → e.transient = .low →
      ((envAdvances n (envRestarted 14 e)).step.val = if n % 33 = 32 then 0 else n % 33) ∧
      (envAdvances n (envRestarted 14 e)).strobe = decide (n % 33 = 32))

/-! ### The mixer -/

/-- 00_scope R16, 43_mixer_dac R294, R295: the gate, and the channel value: `DAC[index]` itself behind an open gate, zero behind a
closed one. -/
def Obligations.GateMultipliesExactly : Prop :=
  (∀ t toff n noff : Bool,
    gateBit t toff n noff = false ↔ (t = false ∧ toff = false) ∨ (n = false ∧ noff = false)) ∧
  (∀ level : Binary64, level.isFinite = true →
    channelValue binary64 true level = level ∧ (channelValue binary64 false level).toRat = 0)

/-- 43_mixer_dac R291 to R295: one mixer tick: the noise channel, the envelope and the three tones advance, and the raw pair is the
sum in the order A, B, C of the gated DAC levels. The pan of R292 is 0.1 below 0.1, 0.9 above 0.9 and PAN itself between, so it lies
in [0.1, 0.9] (10_state R71). -/
def Obligations.MixerTickFollowsItsPseudocode : Prop :=
  ∀ s : State,
    let n := noiseTick s.cfg.lfsrFbPos s.noise
    let e := envTick s.env
    let p (i : Fin 3) : Binary64 :=
      if Binary64.lt s.cfg.pan[i] (binary64.ratio 1 10) then binary64.ratio 1 10
      else if Binary64.lt (binary64.ratio 9 10) s.cfg.pan[i] then binary64.ratio 9 10
      else s.cfg.pan[i]
    let gate (i : Fin 3) : Bool :=
      ((toneTick s.tone[i]).port || s.chan[i].toneOff) && (n.lfsr.getLsbD 0 || s.chan[i].noiseOff)
    let index (i : Fin 3) : Fin 32 :=
      if s.chan[i].envFlag = false then e.step else ⟨2 * s.chan[i].volume.val + 1, by omega⟩
    let v (i : Fin 3) : Binary64 := Binary64.mul (binary64.int (gate i).toNat) s.cfg.dac[index i]
    let l (i : Fin 3) : Binary64 := Binary64.mul (v i) (Binary64.sub (binary64.int 1) (p i))
    let r (i : Fin 3) : Binary64 := Binary64.mul (v i) (p i)
    (mixerTick s).2.left = Binary64.add (Binary64.add (Binary64.add Binary64.zero (l 0)) (l 1)) (l 2) ∧
    (mixerTick s).2.right = Binary64.add (Binary64.add (Binary64.add Binary64.zero (r 0)) (r 1)) (r 2) ∧
    (mixerTick s).1.noise = n ∧ (mixerTick s).1.env = e ∧
    (∀ i : Fin 3, (mixerTick s).1.tone[i] = toneTick s.tone[i]) ∧
    (mixerTick s).1.x = s.x ∧ (mixerTick s).1.chan = s.chan ∧ (mixerTick s).1.cfg = s.cfg ∧
    (mixerTick s).1.clock = s.clock ∧ (mixerTick s).1.frame = s.frame ∧ (mixerTick s).1.interp = s.interp ∧
    (mixerTick s).1.fir = s.fir ∧ (mixerTick s).1.bias = s.bias ∧ (mixerTick s).1.refused = s.refused ∧
    (mixerTick s).1.inFrameRoutine = s.inFrameRoutine ∧ (mixerTick s).1.inputs = s.inputs ∧
    (mixerTick s).1.response = s.response ∧
    (∀ i : Fin 3, s.cfg.pan[i].isNaN = false →
      Binary64.le (binary64.ratio 1 10) (p i) = true ∧ Binary64.le (p i) (binary64.ratio 9 10) = true)

/-! ### The accumulators and STEP -/

/-- 44_clock_step R324, R327: one oversample iteration's clock work: the strict comparison, the kept remainder, and the chip tick
in its order. -/
def Obligations.ClockAdvanceTicksAboveOne : Prop :=
  ∀ s : State,
    let c := Binary64.add s.clock.cycle s.clock.step
    (Binary64.lt (binary64.int 1) c = false → clockIteration s = { s with clock := { s.clock with cycle := c } }) ∧
    (Binary64.lt (binary64.int 1) c = true →
      let s1 := { s with clock := { s.clock with cycle := Binary64.sub c (binary64.int 1) } }
      let r := mixerTick (mapRegisters s1)
      clockIteration s =
        { r.1 with
          interp :=
            { left := { h0 := s.interp.left.h1, h1 := s.interp.left.h2, h2 := s.interp.left.h3, h3 := r.2.left }
              right := { h0 := s.interp.right.h1, h1 := s.interp.right.h2, h2 := s.interp.right.h3, h3 := r.2.right } } })

/-- 44_clock_step R331: both accumulators stay in [0, 1], in exact arithmetic and in the machine's binary64. -/
def Obligations.AccumulatorsStayInRange : Prop :=
  (∀ c st : ℚ, 0 ≤ c → c ≤ 1 → 0 ≤ st → st ≤ 1 →
    0 ≤ (clockAdvance exactArith c st).1 ∧ (clockAdvance exactArith c st).1 ≤ 1) ∧
  (∀ c fs : ℚ, 0 ≤ c → c ≤ 1 → 0 ≤ fs →
    0 ≤ (frameAdvance exactArith .drop c fs).1 ∧ (frameAdvance exactArith .drop c fs).1 ≤ 1) ∧
  (∀ c st : Binary64,
    Binary64.le Binary64.zero c = true → Binary64.le c (binary64.int 1) = true →
    Binary64.le Binary64.zero st = true → Binary64.le st (binary64.int 1) = true →
    Binary64.le Binary64.zero (clockAdvance binary64 c st).1 = true ∧
    Binary64.le (clockAdvance binary64 c st).1 (binary64.int 1) = true) ∧
  (∀ c fs : Binary64,
    Binary64.le Binary64.zero c = true → Binary64.le c (binary64.int 1) = true → Binary64.le Binary64.zero fs = true →
    Binary64.le Binary64.zero (frameAdvance binary64 .drop c fs).1 = true ∧
    Binary64.le (frameAdvance binary64 .drop c fs).1 (binary64.int 1) = true)

/-- 44_clock_step R328, in exact arithmetic: the number of ticks in K iterations from construction. -/
def Obligations.TickCountBounds : Prop :=
  ∀ (cs : ℚ) (k : Nat), 0 ≤ cs → cs ≤ 1 →
    (clockRun exactArith cs k 0).1 = k * cs - (clockRun exactArith cs k 0).2 ∧
    k * cs - 1 ≤ (clockRun exactArith cs k 0).2 ∧ ((clockRun exactArith cs k 0).2 : ℚ) ≤ k * cs

/-- 44_clock_step R329, in exact arithmetic: with 0 < fs ≤ 1 the routine fires at every k-th call, k = ⌊1/fs⌋ + 1, and at no
other. -/
def Obligations.FrameEventInterval : Prop :=
  ∀ (fs : ℚ) (n j : Nat), 0 < fs → fs ≤ 1 → j < n →
    ((frameRun exactArith .drop fs n 0)[j]? = some true ↔ (⌊1 / fs⌋₊ + 1) ∣ j + 1)

/-- From 44_clock_step R321, R323, R325, R326, 60_exceptions R445, R454; that a STEP ends in a next state of its own where it calls the
host's routine is assumption log 9, and that the answer is a field of the state log 7. STEP, the whole next state in its three cases: refused
inside the frame routine; suspended at a frame event that calls the host's routine; and otherwise the increments, the frame
accumulator, the oversample loop, both filters of both channels, and the returned pair. -/
def Obligations.StepFollowsItsPseudocode : Prop :=
  ∀ s : State,
    let cs := Binary64.div (Binary64.div (Binary64.mul s.cfg.chipFreq (binary64.ratio 1 8)) s.cfg.outRate) (binary64.int s.cfg.m)
    let c := Binary64.add s.frame.cycle (Binary64.div s.cfg.frameFreq s.cfg.outRate)
    let fires := Binary64.lt (binary64.int 1) c
    let cleared := match s.cfg.frameRemainder with
      | .drop => binary64.int 0
      | .keep => Binary64.sub c (binary64.int 1)
    let s1 :=
      { s with
        clock := { cycle := s.clock.cycle, step := cs }
        frame := { cycle := if fires then cleared else c, routine := s.frame.routine } }
    let r := oversample s.cfg.m s1
    let fl := firStep binary64 s.cfg.taps s.cfg.m s.cfg.h s.fir.left (r.2.map Sides.left)
    let fr := firStep binary64 s.cfg.taps s.cfg.m s.cfg.h s.fir.right (r.2.map Sides.right)
    let bl := biasStep binary64 s.cfg.biasN s.cfg.biasAtten s.bias.left fl.2
    let br := biasStep binary64 s.cfg.biasN s.cfg.biasAtten s.bias.right fr.2
    (s.inFrameRoutine = true →
      exec .step s = .next { s with refused := true, response := .refusal .reentrantStep }) ∧
    (s.inFrameRoutine = false → fires = true → s.frame.routine = .host →
      exec .step s = .next { s1 with inFrameRoutine := true, response := .frameCall }) ∧
    (s.inFrameRoutine = false → (fires = false ∨ s.frame.routine = .noop) →
      exec .step s =
        .next
          { r.1 with
            fir := { left := fl.1, right := fr.1 }
            bias := { left := bl.1, right := br.1 }
            response := .sample bl.2 br.2 })

/-- 44_clock_step R326, R330, 45_interpolator R362: the loop makes M iterations; iteration j's pair is INTERP_EVAL of each side's
interpolator at the phase 0.5, in the form the configuration selects, tick or no tick; an iteration without a tick repeats the
previous value. -/
def Obligations.OversampleLoopSamples : Prop :=
  (∀ (k : Nat) (s : State),
    (oversample k s).1 = clockIteration^[k] s ∧ (oversample k s).2.length = k ∧
    ∀ j, j < k → (oversample k s).2[j]? = some (interpSample (clockIteration^[j + 1] s))) ∧
  (∀ s : State,
    interpSample s =
      { left := interpEval binary64 s.cfg.interpForm s.interp.left (binary64.ratio 1 2)
        right := interpEval binary64 s.cfg.interpForm s.interp.right (binary64.ratio 1 2) }) ∧
  (∀ s : State, (clockAdvance binary64 s.clock.cycle s.clock.step).2 = false →
    interpSample (clockIteration s) = interpSample s)

/-- From 60_exceptions R453 to R456, R465; that a STEP with a host's routine is cut into moves is assumption log 9, and that an empty
queue leaves the state assumption log 5. FRAME_RETURN, whatever the routine has done, clears the flag, restores nothing, and the
STEP goes on with its oversample loop and both filters; a routine that returns at once is the no-op routine. Until then every
command word completes, and changes at most the register file, the mark and the answer. With no move the machine waits, in the routine
and between any two commands. -/
def Obligations.FrameReturnResumesTheStep : Prop :=
  (∀ (s : State) (rest : List HostEvent), s.inFrameRoutine = true → s.inputs = .frameReturn :: rest →
    let r := oversample s.cfg.m { s with inFrameRoutine := false, inputs := rest }
    let fl := firStep binary64 s.cfg.taps s.cfg.m s.cfg.h s.fir.left (r.2.map Sides.left)
    let fr := firStep binary64 s.cfg.taps s.cfg.m s.cfg.h s.fir.right (r.2.map Sides.right)
    let bl := biasStep binary64 s.cfg.biasN s.cfg.biasAtten s.bias.left fl.2
    let br := biasStep binary64 s.cfg.biasN s.cfg.biasAtten s.bias.right fr.2
    step s =
        .next
          { r.1 with
            fir := { left := fl.1, right := fr.1 }
            bias := { left := bl.1, right := br.1 }
            response := .sample bl.2 br.2 } ∧
      r.1.inFrameRoutine = false) ∧
  (∀ (s t u : State) (rest : List HostEvent), s.inFrameRoutine = false → s.frame.routine = .host →
    s.inputs = .frameReturn :: rest →
    exec .step s = .next t → t.inFrameRoutine = true →
    exec .step { s with inputs := rest, frame := { s.frame with routine := .noop } } = .next u →
    step t = .next { u with frame := { u.frame with routine := .host } } ∧ u.inFrameRoutine = false) ∧
  (∀ (s : State) (w : CmdWord) (rest : List HostEvent), s.inFrameRoutine = true → s.inputs = .command w :: rest →
    ∃ t, step s = .next t ∧ t.inFrameRoutine = true ∧
      t = { s with x := t.x, refused := t.refused, inputs := rest, response := t.response }) ∧
  (∀ s : State, s.inputs = [] → step s = .next s)

/-- From 44_clock_step R326, 40_register_interface R162, R178: what a STEP leaves: every register reads as before, and the
configuration, the installed routine, the host's moves and the refusal mark (outside a routine) are unchanged. -/
def Obligations.StepKeepsWhatRegistersRead : Prop :=
  ∀ s : State, ∃ t, exec .step s = .next t ∧
    (∀ a : Fin 14, readReg a t = readReg a s) ∧ t.cfg = s.cfg ∧ t.frame.routine = s.frame.routine ∧
    t.inputs = s.inputs ∧ (s.inFrameRoutine = false → t.refused = s.refused)

/-- 70_reset R503: a STEP in which no iteration ticks, with the no-op routine, or a host's whose event is not raised: writes are not
seen, the oscillators, the envelope and the derived fields do not advance, the interpolators keep their histories, and both filters
of both channels still advance, fed M equal samples, to the answered pair. Such STEPs exist: from an accumulator of 0, an increment
of less than 1/M makes none of M iterations tick (in exact arithmetic). -/
def Obligations.StepWithoutTicks : Prop :=
  (∀ s : State, s.inFrameRoutine = false →
    (s.frame.routine = .noop ∨
      Binary64.lt (binary64.int 1) (Binary64.add s.frame.cycle (Binary64.div s.cfg.frameFreq s.cfg.outRate)) = false) →
    (clockRun binary64 (clockStepOf binary64 s.cfg.chipFreq s.cfg.outRate s.cfg.m) s.cfg.m s.clock.cycle).2 = 0 →
    let fl := firStep binary64 s.cfg.taps s.cfg.m s.cfg.h s.fir.left (List.replicate s.cfg.m (interpSample s).left)
    let fr := firStep binary64 s.cfg.taps s.cfg.m s.cfg.h s.fir.right (List.replicate s.cfg.m (interpSample s).right)
    let bl := biasStep binary64 s.cfg.biasN s.cfg.biasAtten s.bias.left fl.2
    let br := biasStep binary64 s.cfg.biasN s.cfg.biasAtten s.bias.right fr.2
    ∃ t, exec .step s = .next t ∧
      t.x = s.x ∧ t.tone = s.tone ∧ t.chan = s.chan ∧ t.noise = s.noise ∧ t.env = s.env ∧ t.interp = s.interp ∧
      t.fir = { left := fl.1, right := fr.1 } ∧ t.bias = { left := bl.1, right := br.1 } ∧
      t.response = .sample bl.2 br.2) ∧
  (∀ (m : Nat) (cs : ℚ), 0 ≤ cs → cs * m < 1 → (clockRun exactArith cs m 0).2 = 0)

/-- 10_state R57, R58 (93 I17): the register bits no rule uses have no effect: two states whose register files agree on every used
bit give the same output, and all but the register file agrees afterwards. -/
def Obligations.UnusedBitsHaveNoEffect : Prop :=
  ∀ (s : State) (y : Vector Byte 14), SameUsedBits s.cfg s.x y →
    ∃ t u, exec .step s = .next t ∧ exec .step { s with x := y } = .next u ∧
      u = { t with x := u.x } ∧ SameUsedBits s.cfg t.x u.x

/-! ### The filters -/

/-- 45_interpolator R363, R364, R365: both forms in the order of their operations, over any arithmetic, so bit for bit in binary64;
in exact arithmetic the Catmull-Rom curve passes through the two middle values, and at phase 0.5 both forms are four-tap filters that
agree on a linear history. -/
def Obligations.InterpolatorAtHalfPhase : Prop :=
  (∀ {α : Type} (A : Arith α) (y0 y1 y2 y3 mu : α),
    let mu2 := A.mul mu mu
    let poly (a0 a1 a2 a3 : α) : α := A.add (A.add (A.add (A.mul (A.mul a0 mu) mu2) (A.mul a1 mu2)) (A.mul a2 mu)) a3
    interpEval A .catmullRom { h0 := y0, h1 := y1, h2 := y2, h3 := y3 } mu =
      poly
        (A.add (A.sub (A.add (A.mul (A.ratio (-1) 2) y0) (A.mul (A.ratio 3 2) y1)) (A.mul (A.ratio 3 2) y2))
          (A.mul (A.ratio 1 2) y3))
        (A.sub (A.add (A.sub y0 (A.mul (A.ratio 5 2) y1)) (A.mul (A.ratio 2 1) y2)) (A.mul (A.ratio 1 2) y3))
        (A.add (A.mul (A.ratio (-1) 2) y0) (A.mul (A.ratio 1 2) y2)) y1 ∧
    interpEval A .bourke { h0 := y0, h1 := y1, h2 := y2, h3 := y3 } mu =
      poly (A.add (A.sub (A.sub y3 y2) y0) y1) (A.sub (A.sub y0 y1) (A.add (A.sub (A.sub y3 y2) y0) y1)) (A.sub y2 y0) y1) ∧
  (∀ ip : Interp ℚ,
    interpEval exactArith .catmullRom ip 0 = ip.h1 ∧ interpEval exactArith .catmullRom ip 1 = ip.h2 ∧
    interpEval exactArith .catmullRom ip (1 / 2) = (-ip.h0 + 9 * ip.h1 + 9 * ip.h2 - ip.h3) / 16 ∧
    interpEval exactArith .bourke ip (1 / 2) = (-ip.h0 + 5 * ip.h1 + 5 * ip.h2 - ip.h3) / 8 ∧
    (ip.h0 + ip.h3 = ip.h1 + ip.h2 →
      interpEval exactArith .catmullRom ip (1 / 2) = interpEval exactArith .bourke ip (1 / 2)))

/-- 45_interpolator R366: four equal entries give that value at every phase in exact arithmetic; in binary64 they need not. -/
def Obligations.InterpolatorFlatLine : Prop :=
  (∀ (f : InterpForm) (c mu : ℚ), interpEval exactArith f { h0 := c, h1 := c, h2 := c, h3 := c } mu = c) ∧
  (let c : Binary64 := ⟨0x3FEFFFFFFFFFFFFF⟩
   interpEval binary64 .catmullRom { h0 := c, h1 := c, h2 := c, h3 := c } (binary64.ratio 1 2) = binary64.int 1)

/-- 46_fir R387: from the zero buffer, the n-th output is the length-L convolution of the whole oversampled stream, evaluated at
every M-th sample; over any arithmetic, so bit for bit in binary64. -/
def Obligations.FirIsADecimatingConvolution : Prop :=
  ∀ {α : Type} (A : Arith α) (taps m : Nat) (h : List α) (blocks : List (List α)) (n : Nat),
    1 ≤ taps → 1 ≤ m → h.length = taps * m → (∀ b ∈ blocks, b.length = m) → n < blocks.length →
    (firRun A taps m h blocks (firZero A taps m))[n]? = some (convolution A taps m h blocks.flatten n)

/-- 47_bias R422, R423: BIAS_STEP in the order of its operations, over any arithmetic, so bit for bit in binary64; and in exact
arithmetic, after any inputs the sum is the buffer's sum and the sum of the last N inputs, so the output is the input less their
mean, over the attenuation. -/
def Obligations.BiasSumIsTheWindowSum : Prop :=
  (∀ {α : Type} (A : Arith α) (n : Nat) (atten x : α) (b : Bias α) (h : b.idx < b.buf.length),
    let sum := A.add b.sum (A.sub x b.buf[b.idx])
    biasStep A n atten b x =
      ({ buf := b.buf.set b.idx x, sum := sum, idx := (b.idx + 1) % n },
        A.mul (A.sub x (A.div sum (A.ratio n 1))) (A.div (A.ratio 1 1) atten))) ∧
  (∀ (n : Nat) (atten v : ℚ) (vs : List ℚ), 1 ≤ n → atten ≠ 0 →
    let b := (biasRun exactArith n atten vs (biasZero exactArith n)).1
    let w := (v :: vs.reverse).take n
    b.sum = b.buf.sum ∧ b.sum = (vs.reverse.take n).sum ∧
    (biasStep exactArith n atten b v).2 = (v - w.sum / n) / atten)

/-- 46_fir R388, in exact arithmetic: one unit impulse at position p of the first block gives every M-th coefficient, then 0. -/
def Obligations.FirImpulseResponse : Prop :=
  ∀ (taps m p n k : Nat) (h : List ℚ), 1 ≤ taps → 1 ≤ m → p < m → h.length = taps * m → n ≤ k →
    (firRun exactArith taps m h
        ((List.replicate m 0).set p 1 :: List.replicate k (List.replicate m 0)) (firZero exactArith taps m))[n]? =
      some (if n * m + (m - 1) - p < taps * m then h.getD (n * m + (m - 1) - p) 0 else 0)

/-- 47_bias R424, in exact arithmetic: once the last N inputs all equal v the output is exactly 0. -/
def Obligations.BiasConvergesToZero : Prop :=
  ∀ (n k : Nat) (atten v : ℚ) (vs : List ℚ), 1 ≤ n → atten ≠ 0 → n ≤ k + 1 →
    (biasStep exactArith n atten
      (biasRun exactArith n atten (vs ++ List.replicate k v) (biasZero exactArith n)).1 v).2 = 0

/-- 46_fir R382: the generated kernel has L taps, each its Blackman-Harris window value times its sinc value, in the order of the
rule's operations; nothing is assumed of cos, sin and π (assumption log 2). -/
def Obligations.GeneratedKernelShape : Prop :=
  ∀ (taps m n : Nat) (cutoff rate : Binary64), n < taps * m →
    let fc := Binary64.div cutoff rate
    let d : Int := (n : Int) - ((taps * m / 2 : Nat) : Int)
    let angle (k : Int) : Binary64 :=
      Binary64.div (Binary64.mul (Binary64.mul (binary64.int k) Config.libPi) (binary64.int n))
        (binary64.int ((taps * m : Nat) - 1 : Int))
    let w :=
      Binary64.sub
        (Binary64.add
          (Binary64.sub (binary64.ratio 35875 100000)
            (Binary64.mul (binary64.ratio 48829 100000) (Config.libCos (angle 2))))
          (Binary64.mul (binary64.ratio 14128 100000) (Config.libCos (angle 4))))
        (Binary64.mul (binary64.ratio 1168 100000) (Config.libCos (angle 6)))
    let twoPiFc := Binary64.mul (Binary64.mul (binary64.int 2) Config.libPi) fc
    (firDesign taps m cutoff rate).length = taps * m ∧
    (firDesign taps m cutoff rate)[n]? =
      some (Binary64.mul w
        (if d = 0 then twoPiFc
         else Binary64.div (Config.libSin (Binary64.mul twoPiFc (binary64.int d))) (binary64.int d)))

/-! ### Numbers -/

/-- 00_scope R20: every operation, and every literal, rounds the exact result to nearest, ties to even; comparison is exact.
That a result from the overflow bound on is the infinity of its sign is the model's reading (assumption log 15). -/
def Obligations.OperationsRoundToNearestEven : Prop :=
  (∀ a b : Binary64, a.isFinite = true → b.isFinite = true →
    Rounds (Binary64.add a b) (a.toRat + b.toRat) ∧ Rounds (Binary64.sub a b) (a.toRat - b.toRat) ∧
    Rounds (Binary64.mul a b) (a.toRat * b.toRat) ∧
    (b.toRat ≠ 0 → Rounds (Binary64.div a b) (a.toRat / b.toRat)) ∧
    (Binary64.lt a b = true ↔ a.toRat < b.toRat)) ∧
  (∀ (n : Int) (d : Nat), 0 < d → Rounds (Binary64.ratio n d) ((n : ℚ) / (d : ℚ)))

/-! ### Construction, the invariant and the marks -/

/-- 60_exceptions R442, R443: construction reports the first failing check; it creates an instance exactly where none fails. That a
failed construct move stops the machine with that error is the model's reading (assumption log 10); what check 1 sees of a default
`FIR_RATE`, and check 7 of an increment that is no number, is assumption log 11. -/
def Obligations.ConstructionReportsTheFirstError : Prop :=
  ∀ (c : RawConfig) (r : Routine),
    (∀ e : ConfigError,
      construct c r = .error e ↔ FailsWhen c e ∧ ∀ e' : ConfigError, e'.code < e.code → ¬FailsWhen c e') ∧
    ((∃ s, construct c r = .ok s) ↔ ∀ e : ConfigError, ¬FailsWhen c e) ∧
    ∀ (s : State) (rest : List HostEvent) (e : ConfigError), s.inputs = .construct c r :: rest →
      construct c r = .error e → step s = .fault (.configError e)

/-- 10_state R80, 60_exceptions R443: the state a successful construction gives. That as a move it replaces the present instance
(70_reset R490) and keeps the host's later moves, also inside a routine, is the model's reading (assumption log 10). -/
def Obligations.ConstructionState : Prop :=
  ∀ (c : RawConfig) (r : Routine) (u : State), construct c r = .ok u →
    (∀ a : Fin 14, u.x[a] = 0) ∧
    (∀ i : Fin 3, u.tone[i] = { counter := 0, port := false, period := 1 } ∧
      u.chan[i] = { volume := 0, toneOff := false, noiseOff := false, envFlag := true }) ∧
    u.noise = { counter := 0, period := 1, lfsr := 1 } ∧
    u.env = { counter := 0, period := 1, shape := 0, offset := .class0, strobe := false, step := 0, transient := .low,
              store := 0 } ∧
    u.clock = { cycle := Binary64.zero, step := clockStepOf binary64 c.chipFreq c.outRate c.m } ∧
    u.frame = { cycle := Binary64.zero, routine := r } ∧
    (∀ q ∈ [u.interp.left, u.interp.right],
      q = { h0 := Binary64.zero, h1 := Binary64.zero, h2 := Binary64.zero, h3 := Binary64.zero }) ∧
    (∀ f ∈ [u.fir.left, u.fir.right], f = { buf := List.replicate (2 * (c.taps * c.m)) Binary64.zero, idx := 0 }) ∧
    (∀ b ∈ [u.bias.left, u.bias.right], b = { buf := List.replicate c.biasN Binary64.zero, sum := Binary64.zero, idx := 0 }) ∧
    u.refused = false ∧ u.inFrameRoutine = false ∧
    ∀ (s : State) (rest : List HostEvent), s.inputs = .construct c r :: rest → step s = .next { u with inputs := rest }

/-- 70_reset R491 steps 2 and 3, 46_fir R381: the configuration an accepted instance keeps is the host's, with its kernel supplied
or generated. -/
def Obligations.ConstructionFixesTheConfiguration : Prop :=
  ∀ (c : RawConfig) (r : Routine) (u : State), construct c r = .ok u →
    u.cfg.chipFreq = c.chipFreq ∧ u.cfg.outRate = c.outRate ∧ u.cfg.m = c.m ∧ u.cfg.frameFreq = c.frameFreq ∧
    u.cfg.taps = c.taps ∧ u.cfg.biasN = c.biasN ∧ u.cfg.biasAtten = c.biasAtten ∧ u.cfg.pan = c.pan ∧
    u.cfg.dac = c.dac ∧ (u.cfg.noiseMask.toNat : Int) = c.noiseMask ∧ u.cfg.frameRemainder = c.frameRemainder ∧
    (u.cfg.lfsrFbPos = .pos15 ↔ c.lfsrFbPos = 15) ∧ (u.cfg.lfsrFbPos = .pos16 ↔ c.lfsrFbPos = 16) ∧
    (u.cfg.interpForm = .bourke ↔ c.interpForm = .bourke) ∧
    (u.cfg.interpForm = .catmullRom ↔ c.interpForm = .catmullRom) ∧
    (∀ k : Fin 16, rowNumbers u.cfg.envClass[k] = c.envClass[k]) ∧
    u.cfg.h = (match c.kernel with
      | some h => h
      | none =>
        firDesign c.taps c.m c.firCutoff
          (match c.firRate with
            | some rate => rate
            | none => Binary64.mul c.outRate (binary64.int c.m)))

/-- 44_clock_step R321, 46_fir R384: no command, and no move of the host but the construction of a new instance, changes the
configuration or, once it holds the configuration's value, the clock increment. -/
def Obligations.ConfigurationNeverChanges : Prop :=
  (∀ (i : Instr) (s t : State), exec i s = .next t →
    t.cfg = s.cfg ∧
    (s.clock.step = clockStepOf binary64 s.cfg.chipFreq s.cfg.outRate s.cfg.m → t.clock.step = s.clock.step)) ∧
  (∀ s t : State, step s = .next t →
    (∀ (c : RawConfig) (r : Routine) (rest : List HostEvent), s.inputs ≠ .construct c r :: rest) →
    t.cfg = s.cfg ∧
    (s.clock.step = clockStepOf binary64 s.cfg.chipFreq s.cfg.outRate s.cfg.m → t.clock.step = s.clock.step))

/-- From 10_state R70: construction with a valid configuration gives a state that meets the invariant. -/
def Obligations.ConstructionMeetsTheInvariant : Prop :=
  ∀ (c : RawConfig) (r : Routine) (u : State), construct c r = .ok u → Inv u

/-- From 10_state R70, at the reset state (the configuration T is the model's choice, assumption log 3). -/
def Obligations.ResetMeetsTheInvariant : Prop :=
  construct standardRecord .noop = .ok State.reset ∧ Inv State.reset

/-- 10_state R70: the ranges hold after every command: every step keeps the invariant, which also says that the LFSR is never 0
(41_tone_noise R228), that every FIR sample is stored twice (46_fir R386), and that the clock increment is constant. -/
def Obligations.StepKeepsTheInvariant : Prop :=
  ∀ s t : State, Inv s → step s = .next t → Inv t

/-- 10_state R62: within an instance nothing clears the refusal mark; only the construction of a new instance starts without. -/
def Obligations.RefusalMarkIsNeverCleared : Prop :=
  ∀ s t : State, s.refused = true → step s = .next t →
    (∀ (c : RawConfig) (r : Routine) (rest : List HostEvent), s.inputs ≠ .construct c r :: rest) → t.refused = true

/-! ### Assembly and the host's side -/

/-- 30_encoding R143: the period pseudo-instructions set the period they name at the next `map()`. -/
def Obligations.PeriodPseudoInstructions : Prop :=
  (∀ (s : State) (ch : Fin 3) (p : BitVec 12),
    ∃ t, execAll (expandPseudo (.tonePeriod ch p)) s = .next t ∧
      (mapRegisters t).tone[ch].period = if p = 0 then 1 else p.toNat) ∧
  (∀ (s : State) (p : BitVec 16),
    ∃ t, execAll (expandPseudo (.envPeriod p)) s = .next t ∧
      (mapRegisters t).env.period = if p = 0 then 1 else p.toNat)

/-- 60_exceptions R455, R456: a row's fourteen writes store its bytes and change nothing else; the routine that writes a row makes
these writes in address order and then returns. -/
def Obligations.RowRoutineWritesEveryRegister : Prop :=
  ∀ (s : State) (b : Vector Byte 14),
    execAll (rowWrites b) s = .next { s with x := b, response := .nothing } ∧
    (∀ a : Fin 14, (rowRoutine b)[a.val]? = some (.command (encode (writeInstr a b[a])))) ∧
    (rowRoutine b)[14]? = some .frameReturn ∧ (rowRoutine b).length = 15
end

