-- ==== Sys2Proof/Laws/Binary64.lean ====
section
/-! SUPPORT. Laws/Binary64.lean: what each helper of the binary64 arithmetic computes, said once. -/

namespace Sys2Proof.Binary64

theorem pow2_eq (k : Nat) : pow2 k = 2 ^ k := by
  unfold pow2
  rw [← pow_mul, ← pow_add]
  congr 1
  omega

/-- The rounded quotient is the floor or one more. -/
theorem divNearestEven_cases (n e : Nat) : divNearestEven n e = n / e ∨ divNearestEven n e = n / e + 1 := by
  unfold divNearestEven
  dsimp only
  split
  · exact .inr rfl
  · exact .inl rfl

@[simp] theorem divNearestEven_one (n : Nat) : divNearestEven n 1 = n := by simp [divNearestEven, Nat.mod_one]

@[simp] theorem divNearestEven_mul (n : Nat) {e : Nat} (h : 0 < e) : divNearestEven (n * e) e = n := by
  have : ¬e < 0 := by omega
  simp [divNearestEven, Nat.mul_div_cancel _ h, h.ne]

theorem fracField_lt (a : Binary64) : a.fracField < 2 ^ 52 := Nat.mod_lt _ (by norm_num)

theorem expField_lt (a : Binary64) : a.expField < 2048 := Nat.mod_lt _ (by norm_num)

/-- An operand that is finite is neither of the special data. -/
theorem not_special_of_isFinite {a : Binary64} (h : a.isFinite = true) : a.isNaN = false ∧ a.isInf = false := by
  simp only [isFinite, decide_eq_true_eq] at h
  simp [isNaN, isInf, h]

/-- Addition of finite data is one rounding of the exact sum. -/
theorem add_of_isFinite {a b : Binary64} (ha : a.isFinite = true) (hb : b.isFinite = true) :
    add a b =
      if a.units + b.units = 0 then zeroOf (a.sign && b.sign)
      else ofMag (decide (a.units + b.units < 0)) (a.units + b.units).natAbs 1 := by
  simp [add, not_special_of_isFinite ha, not_special_of_isFinite hb]

/-- Multiplication of finite data is one rounding of the exact product. -/
theorem mul_of_isFinite {a b : Binary64} (ha : a.isFinite = true) (hb : b.isFinite = true) :
    mul a b = ofMag (a.sign != b.sign) (a.mag * b.mag) (pow2 1074) := by
  simp [mul, not_special_of_isFinite ha, not_special_of_isFinite hb]

/-- Division of finite data by a non-zero one is one rounding of the exact quotient. -/
theorem div_of_isFinite {a b : Binary64} (ha : a.isFinite = true) (hb : b.isFinite = true) (h0 : b.mag ≠ 0) :
    div a b = ofMag (a.sign != b.sign) (a.mag * pow2 1074) b.mag := by
  simp [div, not_special_of_isFinite ha, not_special_of_isFinite hb, h0]

end Sys2Proof.Binary64
end

