-- ==== Sys2Proof/Laws/State.lean ====
section
/-! SUPPORT. Laws/State.lean: what each named state update does to each field of State, one lemma per field and update. -/

namespace Sys2Proof.Machine

/-! ### respond -/

@[simp] theorem respond_cfg (r : Response) (s : State) : (respond r s).cfg = s.cfg := rfl
@[simp] theorem respond_x (r : Response) (s : State) : (respond r s).x = s.x := rfl
@[simp] theorem respond_tone (r : Response) (s : State) : (respond r s).tone = s.tone := rfl
@[simp] theorem respond_chan (r : Response) (s : State) : (respond r s).chan = s.chan := rfl
@[simp] theorem respond_noise (r : Response) (s : State) : (respond r s).noise = s.noise := rfl
@[simp] theorem respond_env (r : Response) (s : State) : (respond r s).env = s.env := rfl
@[simp] theorem respond_clock (r : Response) (s : State) : (respond r s).clock = s.clock := rfl
@[simp] theorem respond_frame (r : Response) (s : State) : (respond r s).frame = s.frame := rfl
@[simp] theorem respond_interp (r : Response) (s : State) : (respond r s).interp = s.interp := rfl
@[simp] theorem respond_fir (r : Response) (s : State) : (respond r s).fir = s.fir := rfl
@[simp] theorem respond_bias (r : Response) (s : State) : (respond r s).bias = s.bias := rfl
@[simp] theorem respond_refused (r : Response) (s : State) : (respond r s).refused = s.refused := rfl
@[simp] theorem respond_inFrameRoutine (r : Response) (s : State) : (respond r s).inFrameRoutine = s.inFrameRoutine := rfl
@[simp] theorem respond_inputs (r : Response) (s : State) : (respond r s).inputs = s.inputs := rfl
@[simp] theorem respond_response (r : Response) (s : State) : (respond r s).response = r := rfl

/-! ### refuse -/

@[simp] theorem refuse_cfg (r : RefuseReason) (s : State) : (refuse r s).cfg = s.cfg := rfl
@[simp] theorem refuse_x (r : RefuseReason) (s : State) : (refuse r s).x = s.x := rfl
@[simp] theorem refuse_tone (r : RefuseReason) (s : State) : (refuse r s).tone = s.tone := rfl
@[simp] theorem refuse_chan (r : RefuseReason) (s : State) : (refuse r s).chan = s.chan := rfl
@[simp] theorem refuse_noise (r : RefuseReason) (s : State) : (refuse r s).noise = s.noise := rfl
@[simp] theorem refuse_env (r : RefuseReason) (s : State) : (refuse r s).env = s.env := rfl
@[simp] theorem refuse_clock (r : RefuseReason) (s : State) : (refuse r s).clock = s.clock := rfl
@[simp] theorem refuse_frame (r : RefuseReason) (s : State) : (refuse r s).frame = s.frame := rfl
@[simp] theorem refuse_interp (r : RefuseReason) (s : State) : (refuse r s).interp = s.interp := rfl
@[simp] theorem refuse_fir (r : RefuseReason) (s : State) : (refuse r s).fir = s.fir := rfl
@[simp] theorem refuse_bias (r : RefuseReason) (s : State) : (refuse r s).bias = s.bias := rfl
@[simp] theorem refuse_refused (r : RefuseReason) (s : State) : (refuse r s).refused = true := rfl
@[simp] theorem refuse_inFrameRoutine (r : RefuseReason) (s : State) : (refuse r s).inFrameRoutine = s.inFrameRoutine := rfl
@[simp] theorem refuse_inputs (r : RefuseReason) (s : State) : (refuse r s).inputs = s.inputs := rfl
@[simp] theorem refuse_response (r : RefuseReason) (s : State) : (refuse r s).response = .refusal r := rfl

/-! ### writeReg -/

@[simp] theorem writeReg_cfg (a : Fin 14) (d : Byte) (s : State) : (writeReg a d s).cfg = s.cfg := rfl
@[simp] theorem writeReg_x (a : Fin 14) (d : Byte) (s : State) : (writeReg a d s).x = s.x.set a d := rfl
@[simp] theorem writeReg_tone (a : Fin 14) (d : Byte) (s : State) : (writeReg a d s).tone = s.tone := rfl
@[simp] theorem writeReg_chan (a : Fin 14) (d : Byte) (s : State) : (writeReg a d s).chan = s.chan := rfl
@[simp] theorem writeReg_noise (a : Fin 14) (d : Byte) (s : State) : (writeReg a d s).noise = s.noise := rfl
@[simp] theorem writeReg_env (a : Fin 14) (d : Byte) (s : State) : (writeReg a d s).env = s.env := rfl
@[simp] theorem writeReg_clock (a : Fin 14) (d : Byte) (s : State) : (writeReg a d s).clock = s.clock := rfl
@[simp] theorem writeReg_frame (a : Fin 14) (d : Byte) (s : State) : (writeReg a d s).frame = s.frame := rfl
@[simp] theorem writeReg_interp (a : Fin 14) (d : Byte) (s : State) : (writeReg a d s).interp = s.interp := rfl
@[simp] theorem writeReg_fir (a : Fin 14) (d : Byte) (s : State) : (writeReg a d s).fir = s.fir := rfl
@[simp] theorem writeReg_bias (a : Fin 14) (d : Byte) (s : State) : (writeReg a d s).bias = s.bias := rfl
@[simp] theorem writeReg_refused (a : Fin 14) (d : Byte) (s : State) : (writeReg a d s).refused = s.refused := rfl
@[simp] theorem writeReg_inFrameRoutine (a : Fin 14) (d : Byte) (s : State) : (writeReg a d s).inFrameRoutine = s.inFrameRoutine := rfl
@[simp] theorem writeReg_inputs (a : Fin 14) (d : Byte) (s : State) : (writeReg a d s).inputs = s.inputs := rfl
@[simp] theorem writeReg_response (a : Fin 14) (d : Byte) (s : State) : (writeReg a d s).response = s.response := rfl

/-! ### frameEnter -/

@[simp] theorem frameEnter_cfg (s : State) : (frameEnter s).cfg = s.cfg := rfl
@[simp] theorem frameEnter_x (s : State) : (frameEnter s).x = s.x := rfl
@[simp] theorem frameEnter_tone (s : State) : (frameEnter s).tone = s.tone := rfl
@[simp] theorem frameEnter_chan (s : State) : (frameEnter s).chan = s.chan := rfl
@[simp] theorem frameEnter_noise (s : State) : (frameEnter s).noise = s.noise := rfl
@[simp] theorem frameEnter_env (s : State) : (frameEnter s).env = s.env := rfl
@[simp] theorem frameEnter_clock (s : State) : (frameEnter s).clock = s.clock := rfl
@[simp] theorem frameEnter_frame (s : State) : (frameEnter s).frame = s.frame := rfl
@[simp] theorem frameEnter_interp (s : State) : (frameEnter s).interp = s.interp := rfl
@[simp] theorem frameEnter_fir (s : State) : (frameEnter s).fir = s.fir := rfl
@[simp] theorem frameEnter_bias (s : State) : (frameEnter s).bias = s.bias := rfl
@[simp] theorem frameEnter_refused (s : State) : (frameEnter s).refused = s.refused := rfl
@[simp] theorem frameEnter_inFrameRoutine (s : State) : (frameEnter s).inFrameRoutine = true := rfl
@[simp] theorem frameEnter_inputs (s : State) : (frameEnter s).inputs = s.inputs := rfl
@[simp] theorem frameEnter_response (s : State) : (frameEnter s).response = .frameCall := rfl

/-! ### frameLeave -/

@[simp] theorem frameLeave_cfg (s : State) : (frameLeave s).cfg = s.cfg := rfl
@[simp] theorem frameLeave_x (s : State) : (frameLeave s).x = s.x := rfl
@[simp] theorem frameLeave_tone (s : State) : (frameLeave s).tone = s.tone := rfl
@[simp] theorem frameLeave_chan (s : State) : (frameLeave s).chan = s.chan := rfl
@[simp] theorem frameLeave_noise (s : State) : (frameLeave s).noise = s.noise := rfl
@[simp] theorem frameLeave_env (s : State) : (frameLeave s).env = s.env := rfl
@[simp] theorem frameLeave_clock (s : State) : (frameLeave s).clock = s.clock := rfl
@[simp] theorem frameLeave_frame (s : State) : (frameLeave s).frame = s.frame := rfl
@[simp] theorem frameLeave_interp (s : State) : (frameLeave s).interp = s.interp := rfl
@[simp] theorem frameLeave_fir (s : State) : (frameLeave s).fir = s.fir := rfl
@[simp] theorem frameLeave_bias (s : State) : (frameLeave s).bias = s.bias := rfl
@[simp] theorem frameLeave_refused (s : State) : (frameLeave s).refused = s.refused := rfl
@[simp] theorem frameLeave_inFrameRoutine (s : State) : (frameLeave s).inFrameRoutine = false := rfl
@[simp] theorem frameLeave_inputs (s : State) : (frameLeave s).inputs = s.inputs := rfl
@[simp] theorem frameLeave_response (s : State) : (frameLeave s).response = s.response := rfl

/-! ### pushCommand -/

@[simp] theorem pushCommand_cfg (w : CmdWord) (s : State) : (pushCommand w s).cfg = s.cfg := rfl
@[simp] theorem pushCommand_x (w : CmdWord) (s : State) : (pushCommand w s).x = s.x := rfl
@[simp] theorem pushCommand_tone (w : CmdWord) (s : State) : (pushCommand w s).tone = s.tone := rfl
@[simp] theorem pushCommand_chan (w : CmdWord) (s : State) : (pushCommand w s).chan = s.chan := rfl
@[simp] theorem pushCommand_noise (w : CmdWord) (s : State) : (pushCommand w s).noise = s.noise := rfl
@[simp] theorem pushCommand_env (w : CmdWord) (s : State) : (pushCommand w s).env = s.env := rfl
@[simp] theorem pushCommand_clock (w : CmdWord) (s : State) : (pushCommand w s).clock = s.clock := rfl
@[simp] theorem pushCommand_frame (w : CmdWord) (s : State) : (pushCommand w s).frame = s.frame := rfl
@[simp] theorem pushCommand_interp (w : CmdWord) (s : State) : (pushCommand w s).interp = s.interp := rfl
@[simp] theorem pushCommand_fir (w : CmdWord) (s : State) : (pushCommand w s).fir = s.fir := rfl
@[simp] theorem pushCommand_bias (w : CmdWord) (s : State) : (pushCommand w s).bias = s.bias := rfl
@[simp] theorem pushCommand_refused (w : CmdWord) (s : State) : (pushCommand w s).refused = s.refused := rfl
@[simp] theorem pushCommand_inFrameRoutine (w : CmdWord) (s : State) : (pushCommand w s).inFrameRoutine = s.inFrameRoutine := rfl
@[simp] theorem pushCommand_inputs (w : CmdWord) (s : State) : (pushCommand w s).inputs = .command w :: s.inputs := rfl
@[simp] theorem pushCommand_response (w : CmdWord) (s : State) : (pushCommand w s).response = s.response := rfl

/-! ### Reading a register after a write -/

@[simp] theorem readReg_respond (a : Fin 14) (r : Response) (s : State) : readReg a (respond r s) = readReg a s := rfl

theorem readReg_writeReg_self (a : Fin 14) (d : Byte) (s : State) : readReg a (writeReg a d s) = d &&& regMask s.cfg a := by
  simp [readReg]

theorem readReg_writeReg_other {a b : Fin 14} (h : b ≠ a) (d : Byte) (s : State) :
    readReg a (writeReg b d s) = readReg a s := by
  have h' : b.val ≠ a.val := fun e => h (Fin.ext e)
  simp [readReg, h']

end Sys2Proof.Machine
end

