-- ==== Sys2Proof/Laws/Commands.lean ====
section
/-! SUPPORT. Laws/Commands.lean: everything a command, a move and a step can do, one lemma per shared operation. -/

namespace Sys2Proof.Machine

/-- A write always completes, storing its byte (40_register_interface R160). -/
theorem writeCommand_eq (a : Fin 14) (d : Byte) (s : State) :
    writeCommand a d s = .next { s with x := s.x.set a d, response := .nothing } := rfl

/-- A read of an implemented register always completes and changes only the answer (40_register_interface R162). -/
theorem execRd_of_lt {a : RegAddr} (h : a.toNat < 14) (s : State) :
    execRd a s = .next (respond (.byte (readReg ⟨a.toNat, h⟩ s)) s) := by
  simp [execRd, regIndex, h]

/-- A read of address 14 or 15 is refused (30_encoding R139). -/
theorem execRd_of_ge {a : RegAddr} (h : 14 ≤ a.toNat) (s : State) : execRd a s = .next (refuse .reservedCommand s) := by
  simp [execRd, regIndex, Nat.not_lt.mpr h]

/-- STEP always completes (44_clock_step R326): it is refused, suspended in the frame routine, or done. -/
theorem execStep_cases (s : State) :
    (s.inFrameRoutine = true ∧ execStep s = .next (refuse .reentrantStep s)) ∨
    (s.inFrameRoutine = false ∧ (stepBegin s).2 = true ∧ s.frame.routine = .host ∧
      execStep s = .next (frameEnter (stepBegin s).1)) ∨
    (s.inFrameRoutine = false ∧ ((stepBegin s).2 = false ∨ s.frame.routine = .noop) ∧
      execStep s = .next (stepFinish (stepBegin s).1)) := by
  have hr : (stepBegin s).1.frame.routine = s.frame.routine := rfl
  cases hin : s.inFrameRoutine with
  | true => exact .inl ⟨rfl, by simp [execStep, hin]⟩
  | false =>
    cases hf : (stepBegin s).2 with
    | false => exact .inr (.inr ⟨rfl, .inl rfl, by simp [execStep, hin, stepRun, hf]⟩)
    | true =>
      cases hrt : s.frame.routine with
      | noop => exact .inr (.inr ⟨rfl, .inr rfl, by simp [execStep, hin, stepRun, hf, frameEvent, hr, hrt]⟩)
      | host => exact .inr (.inl ⟨rfl, rfl, rfl, by simp [execStep, hin, stepRun, hf, frameEvent, hr, hrt]⟩)

/-- What a command word can do. -/
theorem execWord_cases (w : CmdWord) (s : State) :
    (∃ i, decode w = .ok i ∧ execWord w s = exec i s) ∨
    (∃ e, decode w = .error e ∧ execWord w s = .next (refuse .reservedCommand s)) := by
  cases h : decode w with
  | ok i => exact .inl ⟨i, rfl, by simp [execWord, h]⟩
  | error e => exact .inr ⟨e, rfl, by simp [execWord, h]⟩

/-- A command completes: every command answers a next state (60_exceptions R440). -/
theorem exec_completes (i : Instr) (s : State) : ∃ t, exec i s = .next t := by
  cases i with
  | rd a =>
    by_cases h : a.toNat < 14
    · exact ⟨_, execRd_of_lt h s⟩
    · exact ⟨_, execRd_of_ge (Nat.le_of_not_lt h) s⟩
  | _ => exact ⟨_, rfl⟩

/-- What a step to a next state can be: no move, a command, a refused word, the end of the frame routine, or a new instance. -/
theorem step_cases {s t : State} (h : step s = .next t) :
    (s.inputs = [] ∧ t = s) ∨
    (∃ w rest i, s.inputs = .command w :: rest ∧ decode w = .ok i ∧ exec i { s with inputs := rest } = .next t) ∨
    (∃ w rest e, s.inputs = .command w :: rest ∧ decode w = .error e ∧
      t = refuse .reservedCommand { s with inputs := rest }) ∨
    (∃ rest, s.inputs = .frameReturn :: rest ∧ s.inFrameRoutine = true ∧
      t = stepFinish (frameLeave { s with inputs := rest })) ∨
    (∃ c r rest u, s.inputs = .construct c r :: rest ∧ construct c r = .ok u ∧ t = { u with inputs := rest }) := by
  unfold step nextMove at h
  split at h
  · rename_i hi
    exact .inl ⟨hi, by injection h with h; exact h.symm⟩
  · rename_i e rest hi
    cases e with
    | command w =>
      obtain ⟨i, hd, he⟩ | ⟨e, hd, he⟩ := execWord_cases w { s with inputs := rest }
      · exact .inr (.inl ⟨w, rest, i, hi, hd, by rw [← he]; exact h⟩)
      · refine .inr (.inr (.inl ⟨w, rest, e, hi, hd, ?_⟩))
        simp only [execMove, he] at h
        injection h with h
        exact h.symm
    | frameReturn =>
      simp only [execMove, execFrameReturn] at h
      split at h
      · rename_i hin
        injection h with h
        exact .inr (.inr (.inr (.inl ⟨rest, hi, hin, h.symm⟩)))
      · cases h
    | construct c r =>
      simp only [execMove, execConstruct] at h
      split at h
      · rename_i u hu
        injection h with h
        exact .inr (.inr (.inr (.inr ⟨c, r, rest, u, hi, hu, h.symm⟩)))
      · cases h

/-- A successful construction passed every check and gives the construction state (60_exceptions R442, R443). -/
theorem construct_ok {c : RawConfig} {r : Routine} {u : State} (h : construct c r = .ok u) :
    firstConfigError c = none ∧ u = State.initial (fixConfig c) r := by
  unfold construct at h
  split at h
  · cases h
  · rename_i hn
    injection h with h
    exact ⟨hn, h.symm⟩

/-- A record that passes every check constructs (60_exceptions R443). -/
theorem construct_of_valid {c : RawConfig} (h : firstConfigError c = none) (r : Routine) :
    construct c r = .ok (State.initial (fixConfig c) r) := by
  simp only [construct, h]

/-- A record that fails a check does not (60_exceptions R443). -/
theorem construct_of_error {c : RawConfig} {e : ConfigError} (h : firstConfigError c = some e) (r : Routine) :
    construct c r = .error e := by
  simp only [construct, h]

end Sys2Proof.Machine
end

