-- ==== Sys2Proof/Laws/Filters.lean ====
section
/-! SUPPORT. Laws/Filters.lean: the small facts of the FIR and bias filters' buffers. -/

namespace Sys2Proof.Machine

variable {α : Type}

@[simp] theorem firWrite_nil (len p : Nat) (buf : List α) : firWrite len p [] buf = buf := rfl

@[simp] theorem firWrite_cons (len p : Nat) (v : α) (vs buf : List α) :
    firWrite len p (v :: vs) buf = firWrite len (p + 1) vs ((buf.set p v).set (p + len) v) := rfl

/-- Writing a block keeps the buffer's length. -/
@[simp] theorem firWrite_length (len : Nat) (vs : List α) :
    ∀ (p : Nat) (buf : List α), (firWrite len p vs buf).length = buf.length := by
  induction vs with
  | nil => intro p buf; rfl
  | cons v vs ih => intro p buf; simp [ih]

/-- Writing a block leaves every position below it, between its copies and above them as it was. -/
theorem firWrite_getElem?_other {len : Nat} {vs : List α} :
    ∀ {p : Nat} {buf : List α} {q : Nat}, (q < p ∨ p + vs.length ≤ q) → (q < p + len ∨ p + len + vs.length ≤ q) →
      (firWrite len p vs buf)[q]? = buf[q]? := by
  induction vs with
  | nil => intros; rfl
  | cons v vs ih =>
    intro p buf q h1 h2
    simp only [List.length_cons] at h1 h2
    rw [firWrite_cons, ih (by omega) (by omega), List.getElem?_set_ne (by omega), List.getElem?_set_ne (by omega)]

/-- After the FIR step the buffer has its length and the index its range (46_fir R385, 10_state R70). -/
theorem firStep_length (A : Arith α) (taps m : Nat) (h : List α) (f : Fir α) (xs : List α) :
    (firStep A taps m h f xs).1.buf.length = f.buf.length := by simp [firStep]

theorem firStep_idx_lt (A : Arith α) {taps : Nat} (ht : 1 ≤ taps) (m : Nat) (h : List α) (f : Fir α) (xs : List α) :
    (firStep A taps m h f xs).1.idx < taps := Nat.mod_lt _ ht

theorem biasStep_length (A : Arith α) (n : Nat) (atten : α) (b : Bias α) (v : α) :
    (biasStep A n atten b v).1.buf.length = b.buf.length := by simp [biasStep]

theorem biasStep_idx_lt (A : Arith α) {n : Nat} (hn : 1 ≤ n) (atten : α) (b : Bias α) (v : α) :
    (biasStep A n atten b v).1.idx < n := Nat.mod_lt _ hn

end Sys2Proof.Machine
end

