-- ==== Sys2Proof/Laws/HostDecoder.lean ====
section
/-! SUPPORT. Laws/HostDecoder.lean: what the external decoder can do, one lemma per function, and that a parsed stream read from the
start never fails. -/

namespace Sys2Proof.Machine

/-- A stream has no decode error exactly where its counts and its table fit (60_exceptions R481). -/
theorem dumpError_eq_none_iff (d : Dump) :
    dumpError d = none ↔ d.loopFrame < d.frameCount ∧ 14 * d.frameCount ≤ d.table.length := by
  unfold dumpError
  split_ifs <;> simp <;> omega

/-- A checked stream has no decode error left, and a table of exactly `14 · F` bytes (60_exceptions R479). -/
theorem checkDump_ok {d e : Dump} (h : checkDump d = .ok e) :
    dumpError e = none ∧ e.table.length = 14 * e.frameCount := by
  unfold checkDump at h
  split at h
  · cases h
  · rename_i hn
    cases h
    rw [dumpError_eq_none_iff] at hn ⊢
    have hl : (d.table.take (14 * d.frameCount)).length = 14 * d.frameCount := by simp [hn.2]
    exact ⟨⟨hn.1, hl.ge⟩, hl⟩

/-- Without a decode error a frame index in range gives its row (60_exceptions R480). -/
theorem nextFrame_of_lt {d : Dump} {c : DumpCursor} (hd : dumpError d = none) (hc : c.frame < d.frameCount) :
    nextFrame d c = .ok (frameRow d c.frame, advanceCursor d c) := by
  simp [nextFrame, hd, hc]

/-- The advanced index is in range again (60_exceptions R480). -/
theorem advanceCursor_lt {d : Dump} {c : DumpCursor} (hd : dumpError d = none) (hc : c.frame < d.frameCount) :
    (advanceCursor d c).frame < d.frameCount := by
  have hl := ((dumpError_eq_none_iff d).1 hd).1
  unfold advanceCursor
  split_ifs <;> dsimp only <;> omega

/-- Reading from the start never fails, and the index stays in range (60_exceptions R480). -/
theorem framesAfter_ok {d : Dump} (hd : dumpError d = none) (n : Nat) :
    ∃ c, framesAfter d n = .ok c ∧ c.frame < d.frameCount := by
  induction n with
  | zero => exact ⟨startCursor, rfl, Nat.zero_lt_of_lt ((dumpError_eq_none_iff d).1 hd).1⟩
  | succ n ih =>
    obtain ⟨c, hc, hlt⟩ := ih
    exact ⟨advanceCursor d c, by simp [framesAfter, hc, nextFrame_of_lt hd hlt], advanceCursor_lt hd hlt⟩

/-- The frame routine writes a whole row, or nothing: on a decode error it issues no command (60_exceptions R481). -/
theorem frameRoutineMoves_cases (bytes : List Byte) (c : DumpCursor) :
    (∃ d row c', parseDump bytes = .ok d ∧ nextFrame d c = .ok (row, c') ∧
      frameRoutineMoves bytes c = (rowRoutine row, c')) ∨
    (((∃ e, parseDump bytes = .error e) ∨ ∃ d e, parseDump bytes = .ok d ∧ nextFrame d c = .error e) ∧
      frameRoutineMoves bytes c = ([.frameReturn], c)) := by
  cases hp : parseDump bytes with
  | error e => exact .inr ⟨.inl ⟨e, rfl⟩, by simp [frameRoutineMoves, hp]⟩
  | ok d =>
    cases hn : nextFrame d c with
    | error e => exact .inr ⟨.inr ⟨d, e, rfl, hn⟩, by simp [frameRoutineMoves, hp, hn]⟩
    | ok r => exact .inl ⟨d, r.1, r.2, rfl, hn, by simp [frameRoutineMoves, hp, hn]⟩

end Sys2Proof.Machine
end

