-- ==== Sys2Proof/Laws/PerInstr.lean ====
section
/-! SUPPORT. Laws/PerInstr.lean: the family `InRow`: the word of a command belongs to the row of the opcode map that bears its
mnemonic (30_encoding R138). -/

namespace Sys2Proof.Laws.InRow

/-- The encoded word matches the pattern of a row with the command's mnemonic. -/
def Statement (i : Instr) : Prop := ∃ r ∈ opcodeMap, r.mnemonic = mnemonic i ∧ encode i &&& r.mask = r.pattern

/-- A word packed with its data byte loses that byte under the mask 0xFF00. -/
theorem packWord_and_high (cls a : BitVec 4) (d : Byte) : packWord cls a d &&& 0xFF00 = packWord cls a 0 := by
  have hm (b : CmdWord) (k : Nat) (hk : k < 16) : (b &&& 0xFF00).getLsbD k = (decide (8 ≤ k) && b.getLsbD k) := by
    rw [BitVec.getLsbD_and, Bool.and_comm]
    congr 1
    interval_cases k <;> decide
  apply BitVec.eq_of_getLsbD_eq
  intro k hk
  rw [hm _ k hk]
  unfold packWord
  simp only [BitVec.getLsbD_append]
  by_cases h8 : k < 8
  · simp [h8, Nat.not_le.mpr h8]
  · simp [h8, Nat.not_lt.mp h8]

theorem wrAfine (d : Byte) : Statement (.wrAfine d) :=
  ⟨⟨"WR_AFINE", 0x1000, 0xFF00⟩, List.mem_of_getElem? (i := 0) rfl, rfl, packWord_and_high 1 0 d⟩
theorem wrAcoarse (d : Byte) : Statement (.wrAcoarse d) :=
  ⟨⟨"WR_ACOARSE", 0x1100, 0xFF00⟩, List.mem_of_getElem? (i := 1) rfl, rfl, packWord_and_high 1 1 d⟩
theorem wrBfine (d : Byte) : Statement (.wrBfine d) :=
  ⟨⟨"WR_BFINE", 0x1200, 0xFF00⟩, List.mem_of_getElem? (i := 2) rfl, rfl, packWord_and_high 1 2 d⟩
theorem wrBcoarse (d : Byte) : Statement (.wrBcoarse d) :=
  ⟨⟨"WR_BCOARSE", 0x1300, 0xFF00⟩, List.mem_of_getElem? (i := 3) rfl, rfl, packWord_and_high 1 3 d⟩
theorem wrCfine (d : Byte) : Statement (.wrCfine d) :=
  ⟨⟨"WR_CFINE", 0x1400, 0xFF00⟩, List.mem_of_getElem? (i := 4) rfl, rfl, packWord_and_high 1 4 d⟩
theorem wrCcoarse (d : Byte) : Statement (.wrCcoarse d) :=
  ⟨⟨"WR_CCOARSE", 0x1500, 0xFF00⟩, List.mem_of_getElem? (i := 5) rfl, rfl, packWord_and_high 1 5 d⟩
theorem wrNoise (d : Byte) : Statement (.wrNoise d) :=
  ⟨⟨"WR_NOISE", 0x1600, 0xFF00⟩, List.mem_of_getElem? (i := 6) rfl, rfl, packWord_and_high 1 6 d⟩
theorem wrMixer (d : Byte) : Statement (.wrMixer d) :=
  ⟨⟨"WR_MIXER", 0x1700, 0xFF00⟩, List.mem_of_getElem? (i := 7) rfl, rfl, packWord_and_high 1 7 d⟩
theorem wrAvol (d : Byte) : Statement (.wrAvol d) :=
  ⟨⟨"WR_AVOL", 0x1800, 0xFF00⟩, List.mem_of_getElem? (i := 8) rfl, rfl, packWord_and_high 1 8 d⟩
theorem wrBvol (d : Byte) : Statement (.wrBvol d) :=
  ⟨⟨"WR_BVOL", 0x1900, 0xFF00⟩, List.mem_of_getElem? (i := 9) rfl, rfl, packWord_and_high 1 9 d⟩
theorem wrCvol (d : Byte) : Statement (.wrCvol d) :=
  ⟨⟨"WR_CVOL", 0x1A00, 0xFF00⟩, List.mem_of_getElem? (i := 10) rfl, rfl, packWord_and_high 1 10 d⟩
theorem wrEfine (d : Byte) : Statement (.wrEfine d) :=
  ⟨⟨"WR_EFINE", 0x1B00, 0xFF00⟩, List.mem_of_getElem? (i := 11) rfl, rfl, packWord_and_high 1 11 d⟩
theorem wrEcoarse (d : Byte) : Statement (.wrEcoarse d) :=
  ⟨⟨"WR_ECOARSE", 0x1C00, 0xFF00⟩, List.mem_of_getElem? (i := 12) rfl, rfl, packWord_and_high 1 12 d⟩
theorem wrEshape (d : Byte) : Statement (.wrEshape d) :=
  ⟨⟨"WR_ESHAPE", 0x1D00, 0xFF00⟩, List.mem_of_getElem? (i := 13) rfl, rfl, packWord_and_high 1 13 d⟩
theorem rd (a : RegAddr) : Statement (.rd a) := ⟨⟨"RD", 0x2000, 0xF0FF⟩, List.mem_of_getElem? (i := 14) rfl, rfl, by revert a; decide⟩
theorem step : Statement .step := ⟨⟨"STEP", 0x3000, 0xFFFF⟩, List.mem_of_getElem? (i := 15) rfl, rfl, rfl⟩

end Sys2Proof.Laws.InRow
end

