-- ==== Sys2Proof/Laws/Ticks.lean ====
section
/-! SUPPORT. Laws/Ticks.lean: the frames of map, the mixer tick, the chip tick and the oversample loop: which fields each leaves
unchanged, and what it writes to the others. -/

namespace Sys2Proof.Machine

/-- What no chip tick writes: the configuration, the clock increment, the frame scheduler, the filters, the marks, the host's
moves and the answer (44_clock_step R326, R327). -/
structure TickFrame (s t : State) : Prop where
  cfg : t.cfg = s.cfg
  clockStep : t.clock.step = s.clock.step
  frame : t.frame = s.frame
  fir : t.fir = s.fir
  bias : t.bias = s.bias
  refused : t.refused = s.refused
  inFrameRoutine : t.inFrameRoutine = s.inFrameRoutine
  inputs : t.inputs = s.inputs
  response : t.response = s.response

theorem TickFrame.refl (s : State) : TickFrame s s := ⟨rfl, rfl, rfl, rfl, rfl, rfl, rfl, rfl, rfl⟩

theorem TickFrame.trans {s t u : State} (h : TickFrame s t) (k : TickFrame t u) : TickFrame s u :=
  ⟨k.cfg.trans h.cfg, k.clockStep.trans h.clockStep, k.frame.trans h.frame, k.fir.trans h.fir, k.bias.trans h.bias,
    k.refused.trans h.refused, k.inFrameRoutine.trans h.inFrameRoutine, k.inputs.trans h.inputs,
    k.response.trans h.response⟩

/-! ### map -/

theorem mapRegisters_frame (s : State) : TickFrame s (mapRegisters s) := by
  constructor <;> simp only [mapRegisters]

@[simp] theorem mapRegisters_cfg (s : State) : (mapRegisters s).cfg = s.cfg := by simp only [mapRegisters]

@[simp] theorem mapRegisters_clock (s : State) : (mapRegisters s).clock = s.clock := by simp only [mapRegisters]

@[simp] theorem mapRegisters_interp (s : State) : (mapRegisters s).interp = s.interp := by simp only [mapRegisters]

@[simp] theorem clampFile_getElem (c : Config) (x : Vector Byte 14) (a : Fin 14) :
    (clampFile c x)[a] = x[a] &&& regMask c a := by simp [clampFile]

@[simp] theorem mapRegisters_x (s : State) : (mapRegisters s).x = clampFile s.cfg s.x := by simp only [mapRegisters]

theorem mapRegisters_tone (s : State) (i : Fin 3) :
    (mapRegisters s).tone[i] = mapTone (clampFile s.cfg s.x) i s.tone[i] := by simp [mapRegisters]

theorem mapRegisters_chan (s : State) (i : Fin 3) : (mapRegisters s).chan[i] = mapChan (clampFile s.cfg s.x) i := by
  simp [mapRegisters]

@[simp] theorem mapRegisters_noise (s : State) : (mapRegisters s).noise = mapNoise (clampFile s.cfg s.x) s.noise := by simp only [mapRegisters]

@[simp] theorem mapRegisters_env (s : State) : (mapRegisters s).env = mapEnv s.cfg (clampFile s.cfg s.x) s.env := by simp only [mapRegisters]

/-- A register reads the same before and after a map (40_register_interface R162, R178). -/
theorem readReg_mapRegisters (s : State) (a : Fin 14) : readReg a (mapRegisters s) = readReg a s := by
  simp only [readReg, mapRegisters_cfg, mapRegisters_x, clampFile_getElem, BitVec.and_assoc, BitVec.and_self]

/-! ### The oscillators and the envelope -/

theorem toneTick_period (t : Tone) : (toneTick t).period = t.period := by
  unfold toneTick
  dsimp only
  split <;> rfl

theorem toneTick_counter_lt {t : Tone} (h : 1 ≤ t.period) : (toneTick t).counter < t.period := by
  unfold toneTick
  dsimp only
  split <;> dsimp only <;> omega

theorem noiseTick_period (p : LfsrFbPos) (n : Noise) : (noiseTick p n).period = n.period := by
  unfold noiseTick
  dsimp only
  split <;> rfl

theorem noiseTick_counter_lt {p : LfsrFbPos} {n : Noise} (h : 1 ≤ n.period) : (noiseTick p n).counter < n.period := by
  unfold noiseTick
  dsimp only
  split <;> dsimp only <;> omega

/-- Which fields the step functions write (42_envelope R254 to R258): the step and the strobe. -/
theorem envAdvance_frame (e : Env) :
    envAdvance e = { e with strobe := (envAdvance e).strobe, step := (envAdvance e).step } := by
  unfold envAdvance
  split
  · unfold envGrow
    dsimp only
    split <;> rfl
  · unfold envDecay
    dsimp only
    split <;> rfl
  · rfl

theorem envTick_period (e : Env) : (envTick e).period = e.period := by
  unfold envTick
  dsimp only
  split
  · rw [envAdvance_frame]
  · rfl

theorem envTick_counter_lt {e : Env} (h : 1 ≤ e.period) : (envTick e).counter < e.period := by
  unfold envTick
  dsimp only
  split
  · rw [envAdvance_frame]
    exact h
  · dsimp only
    omega

/-! ### The mixer tick -/

theorem mixerTick_frame (s : State) : TickFrame s (mixerTick s).1 := by
  constructor <;> simp only [mixerTick]

@[simp] theorem mixerTick_x (s : State) : (mixerTick s).1.x = s.x := by simp only [mixerTick]

@[simp] theorem mixerTick_chan (s : State) : (mixerTick s).1.chan = s.chan := by simp only [mixerTick]

@[simp] theorem mixerTick_clock (s : State) : (mixerTick s).1.clock = s.clock := by simp only [mixerTick]

@[simp] theorem mixerTick_interp (s : State) : (mixerTick s).1.interp = s.interp := by simp only [mixerTick]

@[simp] theorem mixerTick_noise (s : State) : (mixerTick s).1.noise = noiseTick s.cfg.lfsrFbPos s.noise := by simp only [mixerTick]

@[simp] theorem mixerTick_env (s : State) : (mixerTick s).1.env = envTick s.env := by simp only [mixerTick]

/-- Every tone channel advances by one tick (43_mixer_dac R293). -/
theorem mixerTick_tone (s : State) (i : Fin 3) : (mixerTick s).1.tone[i] = toneTick s.tone[i] := by simp [mixerTick]

/-! ### The chip tick and the oversample loop -/

@[simp] theorem chipTick_x (s : State) : (chipTick s).x = (mapRegisters s).x := by simp only [chipTick, mixerTick_x]

@[simp] theorem chipTick_chan (s : State) : (chipTick s).chan = (mapRegisters s).chan := by
  simp only [chipTick, mixerTick_chan]

@[simp] theorem chipTick_noise (s : State) :
    (chipTick s).noise = noiseTick s.cfg.lfsrFbPos (mapRegisters s).noise := by
  simp only [chipTick, mixerTick_noise, mapRegisters_cfg]

@[simp] theorem chipTick_env (s : State) : (chipTick s).env = envTick (mapRegisters s).env := by
  simp only [chipTick, mixerTick_env]

theorem chipTick_tone (s : State) (i : Fin 3) : (chipTick s).tone[i] = toneTick (mapRegisters s).tone[i] := by
  simp only [chipTick, mixerTick_tone]

theorem chipTick_frame (s : State) : TickFrame s (chipTick s) := by
  have h := (mapRegisters_frame s).trans (mixerTick_frame (mapRegisters s))
  unfold chipTick
  generalize mixerTick (mapRegisters s) = r at h
  exact ⟨h.cfg, h.clockStep, h.frame, h.fir, h.bias, h.refused, h.inFrameRoutine, h.inputs, h.response⟩

@[simp] theorem chipTick_clock (s : State) : (chipTick s).clock = s.clock := by
  simp only [chipTick, mixerTick_clock, mapRegisters_clock]

/-- Both interpolators take the tick's raw pair (44_clock_step R327). -/
theorem chipTick_interp (s : State) :
    (chipTick s).interp =
      { left := interpPush s.interp.left (mixerTick (mapRegisters s)).2.left
        right := interpPush s.interp.right (mixerTick (mapRegisters s)).2.right } := by
  simp only [chipTick, mixerTick_interp, mapRegisters_interp]

/-- An iteration ticks or not; without a tick only the accumulator changes (44_clock_step R324, R330). -/
theorem clockIteration_cases (s : State) :
    ((clockAdvance binary64 s.clock.cycle s.clock.step).2 = false ∧
      clockIteration s = { s with clock := { s.clock with cycle := (clockAdvance binary64 s.clock.cycle s.clock.step).1 } }) ∨
    ((clockAdvance binary64 s.clock.cycle s.clock.step).2 = true ∧
      clockIteration s =
        chipTick { s with clock := { s.clock with cycle := (clockAdvance binary64 s.clock.cycle s.clock.step).1 } }) := by
  cases h : (clockAdvance binary64 s.clock.cycle s.clock.step).2 with
  | false => exact .inl ⟨rfl, by simp [clockIteration, h]⟩
  | true => exact .inr ⟨rfl, by simp [clockIteration, h]⟩

theorem clockIteration_frame (s : State) : TickFrame s (clockIteration s) := by
  have h0 : TickFrame s { s with clock := { s.clock with cycle := (clockAdvance binary64 s.clock.cycle s.clock.step).1 } } := by
    constructor <;> rfl
  obtain ⟨-, h⟩ | ⟨-, h⟩ := clockIteration_cases s
  · rw [h]
    exact h0
  · rw [h]
    exact h0.trans (chipTick_frame _)

/-- A property every iteration keeps holds after the loop. -/
theorem oversample_induction {P : State → Prop} (hP : ∀ s, P s → P (clockIteration s)) :
    ∀ (k : Nat) (s : State), P s → P (oversample k s).1
  | 0, _, h => h
  | k + 1, s, h => oversample_induction hP k (clockIteration s) (hP s h)

/-- The loop gives one pair per iteration (44_clock_step R330). -/
@[simp] theorem oversample_length (k : Nat) (s : State) : (oversample k s).2.length = k := by
  induction k generalizing s with
  | zero => rfl
  | succ k ih => simp [oversample, ih]

theorem oversample_frame (k : Nat) (s : State) : TickFrame s (oversample k s).1 :=
  oversample_induction (P := TickFrame s) (fun t h => h.trans (clockIteration_frame t)) k s (TickFrame.refl s)

end Sys2Proof.Machine
end

