-- ==== Sys2Proof/Tests/Slice0.lean ====
section
/-! SUPPORT. Tests/Slice0.lean: the model's own small tests, with expected values from 95_test_vectors and the rules it names, and
for every obligation with hypotheses a witness that meets them. Tests that run binary64 arithmetic are decided by the kernel. -/

-- One theorem at a time: many kernel computations at once would need more threads than the memory limit allows.
set_option Elab.async false

namespace Sys2Proof.Machine.Slice0

/-! ### Helpers -/

/-- The next state, where there is one. -/
def nextOf (o : Host.Outcome State Fault Refusal) : Option State :=
  match o with
  | .next s => some s
  | .fault _ => none
  | .refused _ => none

/-- What the host is answered. -/
def answer (o : Host.Outcome State Fault Refusal) : Option Response := (nextOf o).map State.response

/-- The register file after one command from reset. -/
def fileAfter (i : Instr) : Option (Vector Byte 14) := (nextOf (exec i State.reset)).map State.x

/-- Reset with register `a` holding `d`. -/
def withReg (a : Fin 14) (d : Byte) : State := { State.reset with x := State.reset.x.set a d }

/-- The state of `map()` with a fine and a coarse byte of a pair. -/
def mapPair (fine coarse : Fin 14) (a b : Byte) : State :=
  mapRegisters { State.reset with x := (State.reset.x.set fine a).set coarse b }

/-- Program P1 before its STEP 3: square wave on channel A, one tick made. -/
def beforeStep3 : State :=
  { State.reset with
    x := #v[2, 0, 0, 0, 0, 0, 0, 0x3E, 0x0F, 0, 0, 0, 0, 0]
    tone := #v[{ counter := 1, port := false, period := 2 }, { counter := 0, port := true, period := 1 },
      { counter := 0, port := true, period := 1 }]
    clock := { State.reset.clock with cycle := binary64.int 1 } }

/-- Configuration T with `FRAME_FREQ = 0.4` (program P4). -/
def configP4 : Config := { standardConfig with frameFreq := binary64.ratio 2 5 }

/-- Program P4 before its STEP 3: the host's routine installed, `frame.cycle` 0.8. -/
def beforeFrame : State :=
  { State.initial configP4 .host with frame := { cycle := binary64.ratio 4 5, routine := .host } }

/-- The same, with the frame routine running. -/
def inRoutine : State :=
  { beforeFrame with frame := { cycle := binary64.int 0, routine := .host }, inFrameRoutine := true }

/-- Configuration T with `M = 2`, `TAPS = 2` and a flat kernel (program P5). -/
def configP5 : Config :=
  { standardConfig with
    m := 2
    taps := 2
    h := [binary64.ratio 1 4, binary64.ratio 1 4, binary64.ratio 1 4, binary64.ratio 1 4] }

/-- An envelope in the middle of its life. -/
def env0 : Env :=
  { counter := 0, period := 3, shape := 0, offset := .class0, strobe := false, step := 5, transient := .low, store := 0 }

/-! ### Well-formedness -/

theorem test_wellFormed_rd : Instr.wellFormed (.rd 13) = true ∧ Instr.wellFormed (.rd 0) = true := by decide
theorem test_illFormed_rd14 : Instr.wellFormed (.rd 14) = false := by decide
theorem test_illFormed_rd15 : Instr.wellFormed (.rd 15) = false := by decide
theorem test_wellFormed_write : Instr.wellFormed (.wrAvol 0xFF) = true ∧ Instr.wellFormed .step = true := by decide

/-! ### Decoding: words written out from 30_encoding R134 to R136, and V-ENC1, V-ENC2 -/

theorem test_decode_wrAfine : decode 0b0001000011001000 = .ok (.wrAfine 0xC8) := by decide
theorem test_decode_wrAcoarse : decode 0b0001000100000000 = .ok (.wrAcoarse 0) := by decide
theorem test_decode_wrBfine : decode 0b0001001000010010 = .ok (.wrBfine 0x12) := by decide
theorem test_decode_wrBcoarse : decode 0b0001001110000001 = .ok (.wrBcoarse 0x81) := by decide
theorem test_decode_wrCfine : decode 0b0001010000110100 = .ok (.wrCfine 0x34) := by decide
theorem test_decode_wrCcoarse : decode 0b0001010100001111 = .ok (.wrCcoarse 0x0F) := by decide
theorem test_decode_wrNoise : decode 0b0001011000000001 = .ok (.wrNoise 1) := by decide
theorem test_decode_wrMixer : decode 0b0001011100111110 = .ok (.wrMixer 0x3E) := by decide
theorem test_decode_wrAvol : decode 0b0001100011111111 = .ok (.wrAvol 0xFF) := by decide
theorem test_decode_wrBvol : decode 0b0001100100010000 = .ok (.wrBvol 0x10) := by decide
theorem test_decode_wrCvol : decode 0b0001101011100101 = .ok (.wrCvol 0xE5) := by decide
theorem test_decode_wrEfine : decode 0b0001101100110100 = .ok (.wrEfine 0x34) := by decide
theorem test_decode_wrEcoarse : decode 0b0001110000010010 = .ok (.wrEcoarse 0x12) := by decide
theorem test_decode_wrEshape : decode 0b0001110100001110 = .ok (.wrEshape 0x0E) := by decide
theorem test_decode_rd : decode 0b0010000000000000 = .ok (.rd 0) ∧ decode 0b0010110100000000 = .ok (.rd 13) := by decide
theorem test_decode_step : decode 0b0011000000000000 = .ok .step := by decide

theorem test_reserved_class :
    decode 0x0000 = .error .reservedClass ∧ decode 0x4000 = .error .reservedClass ∧
      decode 0xFFFF = .error .reservedClass := by decide
theorem test_reserved_address :
    decode 0x1E00 = .error .reservedAddress ∧ decode 0x1F55 = .error .reservedAddress ∧
      decode 0x2E00 = .error .reservedAddress ∧ decode 0x2F00 = .error .reservedAddress := by decide
theorem test_reserved_operands :
    decode 0x2101 = .error .readWithData ∧ decode 0x3001 = .error .stepWithOperands ∧
      decode 0x3100 = .error .stepWithOperands := by decide

theorem test_decodeTableWord :
    decodeTableWord 16 0x1D0E = some (.wrEshape 0x0E) ∧ decodeTableWord 16 0x1E00 = none := by decide

/-! ### Writes and reads: V-RW1 -/

theorem test_wrAfine : fileAfter (.wrAfine 0xC8) = some #v[0xC8, 0, 0, 0, 0, 0, 0, 0, 0, 0, 0, 0, 0, 0] := by decide +kernel
theorem test_wrAcoarse_unmasked :
    fileAfter (.wrAcoarse 0xFF) = some #v[0, 0xFF, 0, 0, 0, 0, 0, 0, 0, 0, 0, 0, 0, 0] := by decide +kernel
theorem test_wrBfine : fileAfter (.wrBfine 0x34) = some #v[0, 0, 0x34, 0, 0, 0, 0, 0, 0, 0, 0, 0, 0, 0] := by decide +kernel
theorem test_wrBcoarse : fileAfter (.wrBcoarse 0x1F) = some #v[0, 0, 0, 0x1F, 0, 0, 0, 0, 0, 0, 0, 0, 0, 0] := by decide +kernel
theorem test_wrCfine : fileAfter (.wrCfine 0x34) = some #v[0, 0, 0, 0, 0x34, 0, 0, 0, 0, 0, 0, 0, 0, 0] := by decide +kernel
theorem test_wrCcoarse : fileAfter (.wrCcoarse 0x0F) = some #v[0, 0, 0, 0, 0, 0x0F, 0, 0, 0, 0, 0, 0, 0, 0] := by decide +kernel
theorem test_wrNoise : fileAfter (.wrNoise 1) = some #v[0, 0, 0, 0, 0, 0, 1, 0, 0, 0, 0, 0, 0, 0] := by decide +kernel
theorem test_wrMixer : fileAfter (.wrMixer 0x3E) = some #v[0, 0, 0, 0, 0, 0, 0, 0x3E, 0, 0, 0, 0, 0, 0] := by decide +kernel
theorem test_wrAvol : fileAfter (.wrAvol 0x0F) = some #v[0, 0, 0, 0, 0, 0, 0, 0, 0x0F, 0, 0, 0, 0, 0] := by decide +kernel
theorem test_wrBvol : fileAfter (.wrBvol 0x1F) = some #v[0, 0, 0, 0, 0, 0, 0, 0, 0, 0x1F, 0, 0, 0, 0] := by decide +kernel
theorem test_wrCvol : fileAfter (.wrCvol 0xE5) = some #v[0, 0, 0, 0, 0, 0, 0, 0, 0, 0, 0xE5, 0, 0, 0] := by decide +kernel
theorem test_wrEfine : fileAfter (.wrEfine 1) = some #v[0, 0, 0, 0, 0, 0, 0, 0, 0, 0, 0, 1, 0, 0] := by decide +kernel
theorem test_wrEcoarse : fileAfter (.wrEcoarse 0x12) = some #v[0, 0, 0, 0, 0, 0, 0, 0, 0, 0, 0, 0, 0x12, 0] := by decide +kernel
theorem test_wrEshape_unmasked :
    fileAfter (.wrEshape 0xF8) = some #v[0, 0, 0, 0, 0, 0, 0, 0, 0, 0, 0, 0, 0, 0xF8] := by decide +kernel

theorem test_rd_masks_coarse : answer (exec (.rd 1) (withReg 1 0xFF)) = some (.byte 0x0F) := by decide +kernel
theorem test_rd_keeps_mixer : answer (exec (.rd 7) (withReg 7 0xC0)) = some (.byte 0xC0) := by decide +kernel

/-! ### map(): V-MAP1 to V-MAP4 -/

theorem test_map_tone_period :
    (mapPair 0 1 0x34 0x1F).tone[0].period = 3892 ∧ (mapPair 2 3 0x00 0xF0).tone[1].period = 1 ∧
      (mapPair 4 5 0xFF 0xFF).tone[2].period = 4095 := by decide +kernel
theorem test_map_noise_period :
    (mapRegisters (withReg 6 0x1F)).noise.period = 62 ∧ (mapRegisters (withReg 6 0xFF)).noise.period = 510 ∧
      (mapRegisters (withReg 6 0x00)).noise.period = 1 := by decide +kernel
theorem test_map_env_period :
    (mapPair 11 12 0x34 0x12).env.period = 4660 ∧ (mapPair 11 12 0x00 0x00).env.period = 1 := by decide +kernel
theorem test_map_mixer :
    ((mapRegisters (withReg 7 0x25)).chan.toList.map fun c => (c.toneOff, c.noiseOff)) =
      [(true, false), (false, false), (true, true)] := by decide +kernel
theorem test_map_volume :
    (mapRegisters (withReg 10 0xE5)).chan[2] = { volume := 5, toneOff := false, noiseOff := false, envFlag := true } ∧
      (mapRegisters (withReg 8 0x1F)).chan[0].envFlag = false := by decide +kernel
theorem test_map_shape11 :
    (mapRegisters (withReg 13 0x1B)).env =
      { counter := 0, period := 1, shape := 11, offset := .class0, strobe := false, step := 31, transient := .high,
        store := 11 } := by decide +kernel

/-! ### Oscillators and envelope: V-TONE1, V-NOISE1, V-LFSR16, V-LFSR15, V-ENV1 -/

theorem test_tone_period3 :
    ((List.range 9).map fun k => (toneTicks (k + 1) { counter := 0, port := false, period := 3 }).port) =
      [false, false, true, true, true, false, false, false, true] := by decide
theorem test_noise_period2 :
    noiseTick .pos16 { counter := 1, period := 2, lfsr := 1 } = { counter := 0, period := 2, lfsr := 0x10000 } := by decide
theorem test_lfsr16 :
    (lfsrNext .pos16)^[15] 1 = 0x10004 ∧ (lfsrNext .pos16)^[35] 1 = 0x10400 := by decide
theorem test_lfsr15 :
    (lfsrNext .pos15)^[1] 1 = 0x8000 ∧ (lfsrNext .pos15)^[14] 1 = 0x8004 ∧ (lfsrNext .pos15)^[35] 1 = 0x2080 := by decide
theorem test_env_decay_boundary :
    envAdvance { env0 with step := 0, transient := .high } = { env0 with step := 31, transient := .high, strobe := true } := by
  decide
theorem test_env_triangle_turns :
    (envAdvance { env0 with offset := .class4, strobe := true, step := 31 }).step = 31 ∧
      (envAdvance { env0 with offset := .class5, strobe := true, step := 0 }).step = 0 ∧
      (envAdvance { env0 with offset := .class3, step := 31 }).step = 0 := by decide

/-! ### Mixer, clock, filters: V-MIX2, V-MIX3, V-CLK1, V-INT1, V-FIR1, V-BIAS1, V-S6 -/

theorem test_dac_index :
    dacIndex { volume := 7, toneOff := false, noiseOff := false, envFlag := true } 3 = 15 ∧
      dacIndex { volume := 7, toneOff := false, noiseOff := false, envFlag := false } 3 = 3 := by decide
theorem test_pan_clamp :
    mixAdd binary64 { left := Binary64.zero, right := Binary64.zero } (binary64.ratio 31 32) (binary64.int (-3)) =
      { left := binary64.ratio 8718750000000001 10000000000000000, right := binary64.ratio 96875 1000000 } := by
  decide +kernel
theorem test_clock_exactly_one_does_not_tick :
    clockAdvance binary64 Binary64.zero (binary64.int 1) = (binary64.int 1, false) ∧
      clockAdvance binary64 (binary64.int 1) (binary64.int 1) = (binary64.int 1, true) := by decide +kernel
theorem test_frame_drop_and_keep :
    frameAdvance binary64 .drop (binary64.ratio 4 5) (binary64.ratio 2 5) = (binary64.int 0, true) ∧
      (frameAdvance binary64 .keep (binary64.ratio 4 5) (binary64.ratio 2 5)).2 = true := by decide +kernel
theorem test_interp_catmullRom :
    interpEval binary64 .catmullRom { h0 := binary64.int 0, h1 := binary64.int 1, h2 := binary64.int 0, h3 := binary64.int 0 }
      (binary64.ratio 1 2) = binary64.ratio 5625 10000 := by decide +kernel
theorem test_interp_bourke :
    interpEval binary64 .bourke { h0 := binary64.int 0, h1 := binary64.int 1, h2 := binary64.int 0, h3 := binary64.int 0 }
      (binary64.ratio 1 2) = binary64.ratio 625 1000 := by decide +kernel
theorem test_interp_not_flat :
    interpEval binary64 .catmullRom
      { h0 := ⟨0x3FEFFFFFFFFFFFFF⟩, h1 := ⟨0x3FEFFFFFFFFFFFFF⟩, h2 := ⟨0x3FEFFFFFFFFFFFFF⟩, h3 := ⟨0x3FEFFFFFFFFFFFFF⟩ }
      (binary64.ratio 1 2) = binary64.int 1 := by decide +kernel
theorem test_fir_step :
    firStep binary64 2 2 configP5.h { buf := List.replicate 8 Binary64.zero, idx := 0 } [binary64.int 1, binary64.int 1] =
      ({ buf := [binary64.int 1, binary64.int 1, Binary64.zero, Binary64.zero, binary64.int 1, binary64.int 1, Binary64.zero,
          Binary64.zero], idx := 1 }, binary64.ratio 1 2) := by decide +kernel
theorem test_bias_step :
    (biasStep binary64 2 (binary64.int 1) { buf := [Binary64.zero, Binary64.zero], sum := Binary64.zero, idx := 0 }
      (binary64.int 1)).2 = binary64.ratio 1 2 := by decide +kernel

/-! ### Numbers (00_scope R20) -/

theorem test_ratio_tenth : binary64.ratio 1 10 = ⟨0x3FB999999999999A⟩ := by decide +kernel
theorem test_add_ties_to_even :
    Binary64.add ⟨0x4340000000000000⟩ (binary64.int 1) = ⟨0x4340000000000000⟩ := by decide +kernel

/-! ### STEP: programs P1 and P4, refusals, construction (60_exceptions R442, R445; 70_reset R491) -/

theorem test_step_without_tick :
    answer (exec .step State.reset) = some (.sample Binary64.zero Binary64.zero) := by decide +kernel
theorem test_step_first_sound :
    answer (exec .step beforeStep3) =
      some (.sample (binary64.ratio (-22705078125) 1000000000000) (binary64.ratio (-7568359375) 1000000000000)) := by
  decide +kernel
theorem test_step_calls_the_routine : answer (exec .step beforeFrame) = some .frameCall := by decide +kernel
theorem test_step_in_routine_is_refused :
    answer (exec .step inRoutine) = some (.refusal .reentrantStep) := by decide +kernel
theorem test_reserved_word_sets_the_mark :
    (nextOf (step { State.reset with inputs := [.command 0x4000] })).map State.refused = some true := by decide +kernel
theorem test_withFetchWord_runs :
    (nextOf (step (State.reset.withFetchWord 16 0x10C8))).map State.x =
      some #v[0xC8, 0, 0, 0, 0, 0, 0, 0, 0, 0, 0, 0, 0, 0] := by decide +kernel
theorem test_frame_return_leaves_the_routine :
    (nextOf (step { inRoutine with inputs := [.frameReturn] })).map State.inFrameRoutine = some false := by decide +kernel

theorem test_config_errors :
    firstConfigError { standardRecord with chipFreq := Binary64.nan } = some .nonfinite ∧
      firstConfigError { standardRecord with lfsrFbPos := 17 } = some .paramDomain ∧
      firstConfigError { standardRecord with taps := 0, biasN := 0 } = some .tapsZero ∧
      firstConfigError { standardRecord with m := 0 } = some .mZero ∧
      firstConfigError { standardRecord with outRate := Binary64.zero } = some .rateNonpositive ∧
      firstConfigError { standardRecord with chipFreq := binary64.int (-1) } = some .negativeFreq ∧
      firstConfigError { standardRecord with chipFreq := binary64.int 1750000, outRate := binary64.int 44100, m := 4 } =
        some .clockTooFast := by decide +kernel
theorem test_config_default_fir_rate_overflows :
    firstConfigError { standardRecord with outRate := ⟨0x7FEFFFFFFFFFFFFF⟩, m := 2, kernel := none } = some .nonfinite := by
  decide +kernel
theorem test_config_errors_of_the_filters :
    firstConfigError { standardRecord with taps := 2, m := 2, kernel := some (configP5.h.take 3) } = some .kernelLength ∧
      firstConfigError { standardRecord with kernel := none, firCutoff := binary64.ratio 1 4 } = some .genL1 ∧
      firstConfigError { standardRecord with taps := 2, kernel := none } = some .cutoffNonpositive ∧
      firstConfigError { standardRecord with
        taps := 2, kernel := none, firCutoff := binary64.int 22050, firRate := some (binary64.int 44100) } =
        some .cutoffNyquist ∧
      firstConfigError { standardRecord with biasN := 0 } = some .biasNZero ∧
      firstConfigError { standardRecord with biasAtten := Binary64.zero } = some .attenZero ∧
      firstConfigError { standardRecord with dac := dacTest.set 1 (binary64.ratio 1 100) } = some .dacZeroEntries ∧
      firstConfigError { standardRecord with chipFreq := Binary64.zero } = none := by decide +kernel

/-! ### Assembly and the host's decoder: V-ENC3, V-S9 -/

theorem test_assemble :
    assembleLine "WR A_FINE, 0xC8".toList = .ok [0x10C8] ∧ assembleLine "WRPER C, 0xF34 ; tone C".toList = .ok [0x1434, 0x150F] ∧
      assembleLine "RUN 3".toList = .ok [0x3000, 0x3000, 0x3000] ∧
      assembleLine "RUN 0x2".toList = .ok [0x3000, 0x3000] ∧ assembleLine "RD 0x7".toList = .ok [0x2700] ∧
      assembleLine "WR_AFINE 256".toList = .error .badNumber := by decide +kernel
theorem test_disassemble :
    disassemble 0x2700 = "RD 7".toList ∧ disassemble 0x1D08 = "WR_ESHAPE 0x08".toList ∧
      disassemble 0x4000 = ".word 0x4000".toList := by decide +kernel
/-- The stream of V-S9 with the given frame count, loop frame and number of table bytes (60_exceptions R479). -/
def streamS9 (frames loopTo : Byte) (bytes : Nat) : List Byte :=
  [0, 0, 0, 0, frames, 0, 0, 0, loopTo, 0, 0, 0, 0xF0, 0xB3, 0x1A, 0, 0x32, 0, 0, 0, 0x54, 0, 0x41, 0] ++
    (((List.range 14).flatMap fun r =>
      [BitVec.ofNat 8 (16 * r), BitVec.ofNat 8 (16 * r + 1), BitVec.ofNat 8 (16 * r + 2)]).take bytes)

/-- The cursor of V-S9 after `n` calls, and the first two bytes of the next row. -/
def rowAfter (n : Nat) : Except DumpError (DumpCursor × Byte × Byte) := do
  let d ← parseDump (streamS9 3 1 42)
  let c ← framesAfter d n
  let r ← nextFrame d c
  return (c, r.1[0], r.1[1])

theorem test_dump_rows :
    rowAfter 0 = .ok ({ frame := 0, loops := 0 }, 0x00, 0x10) ∧ rowAfter 3 = .ok ({ frame := 1, loops := 1 }, 0x01, 0x11) ∧
      rowAfter 5 = .ok ({ frame := 1, loops := 2 }, 0x01, 0x11) := by decide +kernel
theorem test_dump_errors :
    parseDump (streamS9 0 1 42) = .error .noFrames ∧ parseDump (streamS9 3 3 42) = .error .loopOutOfRange ∧
      parseDump (streamS9 3 1 41) = .error .shortTable ∧
      parseDump ((streamS9 3 1 42).take 23) = .error .truncated := by decide +kernel
theorem test_dump_error_writes_nothing :
    frameRoutineMoves (streamS9 3 1 41) startCursor = ([.frameReturn], startCursor) ∧
      frameRoutineMoves (streamS9 3 1 42) { frame := 3, loops := 0 } = ([.frameReturn], { frame := 3, loops := 0 }) ∧
      (frameRoutineMoves (streamS9 3 1 42) startCursor).1.length = 15 := by decide +kernel

/-! ### Witnesses: for each obligation with hypotheses, a state and operands that meet them together, clause by clause -/

theorem witness_CommandWordFormats : writeInstr 13 0xFF = writeInstr 13 0xFF := rfl
theorem witness_DecodeOfEncodeIsIdentity : Instr.wellFormed (.rd 13) = true ∧ Instr.wellFormed (.wrEshape 0xFF) = true := by
  decide
theorem witness_DecodedWordsAreEncodings : decode 0x2D00 = .ok (.rd 13) ∧ decode 0x1DFF = .ok (.wrEshape 0xFF) := by decide
theorem witness_DecoderFollowsTheOpcodeMap :
    decode 0x2D00 = .ok (.rd 13) ∧ ⟨"RD", 0x2000, 0xF0FF⟩ ∈ opcodeMap ∧
      rowMatches ⟨"RD", 0x2000, 0xF0FF⟩ 0x2D00 = true ∧ rowMatches ⟨"STEP", 0x3000, 0xFFFF⟩ 0x3000 = true := by decide
theorem witness_ReservedWordsAreRefused :
    ({ State.reset with inputs := [.command 0x1E00] } : State).inputs = .command 0x1E00 :: [] ∧ Reserved 0x1E00 ∧
      Reserved 0x0FFF ∧ Reserved 0x4000 ∧ Reserved 0x2F00 ∧ Reserved 0x2D01 ∧ Reserved 0x3001 := by
  refine ⟨rfl, ?_, ?_, ?_, ?_, ?_, ?_⟩ <;> unfold Reserved <;> decide
theorem witness_StepRunsTheDecodedCommand :
    ({ State.reset with inputs := [.command 0x3000] } : State).inputs = .command 0x3000 :: [] ∧ decode 0x3000 = .ok .step ∧
      decodeTableWord 16 0x1DFF = some (.wrEshape 0xFF) := ⟨rfl, by decide⟩
theorem witness_NoiseAndMixerWrites : (0x3F : Byte) = 0x3F := rfl
theorem witness_EnvelopeWrites_restart : (0xF8 : Byte).toNat % 16 ≠ State.reset.env.store.val := by decide +kernel
theorem witness_EnvelopeWrites_same :
    (0x10 : Byte).toNat % 16 = State.reset.env.store.val ∧ State.reset.x[13].toNat % 16 = State.reset.env.store.val ∧
      (mapAfter 11 1 { State.reset with env := { State.reset.env with counter := 1 } }).env.period ≤
        (mapAfter 11 1 { State.reset with env := { State.reset.env with counter := 1 } }).env.counter := by decide +kernel
theorem witness_ReadReturnsTheMaskedByte :
    clsField 0x2E00 = 2 ∧ 13 < (addrField 0x2E00).toNat ∧ clsField 0x2D01 = 2 ∧ dataField 0x2D01 ≠ 0 := by decide
theorem witness_ReadOfAnUnimplementedAddressIsRefused :
    Instr.wellFormed (.rd 14) = false ∧ Instr.wellFormed (.rd 15) = false := by decide
theorem witness_RepeatedWritesLeaveNoTrace : (0xF0 : Byte).toNat % 16 = State.reset.env.store.val := by decide +kernel
theorem witness_MapClassifiesTheShape :
    State.reset.cfg.envClass = envClassTable ∧
      (∀ v : Fin 16, (withReg 13 (BitVec.ofNat 8 v.val)).x[13].toNat % 16 = v.val) := ⟨rfl, by decide +kernel⟩
theorem witness_ShapeChangeRestartsTheEnvelope :
    (withReg 13 9).x[13].toNat % 16 ≠ (withReg 13 9).env.store.val ∧
      (withReg 13 0xF0).x[13].toNat % 16 = (withReg 13 0xF0).env.store.val := by decide +kernel
theorem witness_ToneTickFlipsAtThePeriod : (3 : Nat) ≤ 2 + 1 ∧ 1 + 1 < (3 : Nat) := by decide
theorem witness_ToneIsASquareWave : 1 ≤ (1 : Nat) ∧ 1 ≤ (4095 : Nat) := by decide
theorem witness_NoiseTickShiftsAtThePeriod : (2 : Nat) ≤ 1 + 1 ∧ 0 + 1 < (2 : Nat) := by decide
theorem witness_LfsrNextStateBits : (0 : Nat) < 17 ∧ (15 : Nat) < 17 ∧ (16 : Nat) < 17 := by decide
theorem witness_LfsrNeverReachesZero : (1 : BitVec 17) ≠ 0 := by decide
theorem witness_LfsrInjectivity :
    (1 : BitVec 17).getLsbD 16 = false ∧ lfsrNext .pos15 (1 : BitVec 17) = lfsrNext .pos15 1 ∧
      lfsrNext .pos15 0x10000 = lfsrNext .pos15 1 := by decide
theorem witness_LfsrPeriods : 0 < (1 : Nat) ∧ (57336 : Nat) < 57337 ∧ (131070 : Nat) < 131071 := by decide
theorem witness_EnvelopeStepFunctions_dispatch :
    (env0.offset = .class0 ∧ env0.strobe = false) ∧
      (({ env0 with offset := .class1, strobe := true } : Env).offset = .class1 ∧
        ({ env0 with offset := .class1, strobe := true } : Env).strobe = true) ∧
      (({ env0 with offset := .class5 } : Env).offset = .class5 ∧ ({ env0 with offset := .class5 } : Env).strobe = false) := by
  decide
theorem witness_EnvelopeStepFunctions_ramps :
    ({ env0 with step := 30 } : Env).step.val < 31 ∧ ({ env0 with step := 31 } : Env).step.val = 31 ∧
      0 < ({ env0 with step := 1 } : Env).step.val ∧ ({ env0 with step := 0 } : Env).step.val = 0 ∧
      ({ env0 with offset := .class2 } : Env).offset = .class2 ∧ ({ env0 with offset := .class3 } : Env).offset = .class3 := by
  decide
theorem witness_EnvelopeTickAdvancesAtThePeriod :
    ({ env0 with counter := 2 } : Env).period ≤ ({ env0 with counter := 2 } : Env).counter + 1 ∧
      ({ env0 with counter := 1 } : Env).counter + 1 < ({ env0 with counter := 1 } : Env).period ∧
      env0.counter = 0 ∧ 2 < env0.period ∧ 2 + 1 = env0.period := by decide
theorem witness_EnvelopeShapeTraces :
    (∀ v : Fin 16, v ≠ 0 → v ≠ env0.store) ∧ (0 : Fin 16) ≠ ({ env0 with store := 5 } : Env).store ∧ (32 : Nat) ≤ 32 := by decide
theorem witness_EnvelopeHistoryDependentTraces :
    env0.store ≠ 10 ∧ env0.store ≠ 14 ∧ env0.transient = .low ∧
      ({ env0 with transient := .high } : Env).transient = .high := by decide
theorem witness_GateMultipliesExactly :
    (dacTest[31]).isFinite = true ∧ (⟨0x8000000000000000⟩ : Binary64).isFinite = true := by decide +kernel
theorem witness_MixerTickFollowsItsPseudocode :
    (∀ i : Fin 3, beforeStep3.cfg.pan[i].isNaN = false) ∧ Binary64.isNaN (binary64.int (-3)) = false ∧
      Binary64.isNaN (binary64.int 2) = false := by decide +kernel
theorem witness_ClockAdvanceTicksAboveOne :
    Binary64.lt (binary64.int 1) (Binary64.add State.reset.clock.cycle State.reset.clock.step) = false ∧
      Binary64.lt (binary64.int 1) (Binary64.add beforeStep3.clock.cycle beforeStep3.clock.step) = true := by decide +kernel
theorem witness_AccumulatorsStayInRange :
    ((0 : ℚ) ≤ 1 ∧ (1 : ℚ) ≤ 1) ∧ Binary64.le Binary64.zero (binary64.int 1) = true ∧
      Binary64.le (binary64.int 1) (binary64.int 1) = true := ⟨by norm_num, by decide +kernel⟩
theorem witness_TickCountBounds : (0 : ℚ) ≤ 1 ∧ (1 : ℚ) ≤ 1 := by norm_num
theorem witness_FrameEventInterval : (0 : ℚ) < 2 / 5 ∧ (2 / 5 : ℚ) ≤ 1 ∧ (2 : Nat) < 3 := by norm_num
theorem witness_AccumulatorsStayInRange_frame :
    Binary64.le Binary64.zero (binary64.ratio 4 5) = true ∧ Binary64.le (binary64.ratio 4 5) (binary64.int 1) = true ∧
      Binary64.le Binary64.zero (binary64.int 3) = true := by decide +kernel
theorem witness_StepFollowsItsPseudocode :
    inRoutine.inFrameRoutine = true ∧
      (beforeFrame.inFrameRoutine = false ∧ beforeFrame.frame.routine = .host ∧
        Binary64.lt (binary64.int 1)
          (Binary64.add beforeFrame.frame.cycle (Binary64.div beforeFrame.cfg.frameFreq beforeFrame.cfg.outRate)) = true) ∧
      (State.reset.inFrameRoutine = false ∧ State.reset.frame.routine = .noop) := by decide +kernel
theorem witness_OversampleLoopSamples :
    (0 : Nat) < 1 ∧ (clockAdvance binary64 State.reset.clock.cycle State.reset.clock.step).2 = false := by decide +kernel
theorem witness_FrameReturnResumesTheStep :
    ∃ t u : State, ({ beforeFrame with inputs := [.frameReturn] } : State).inFrameRoutine = false ∧
      exec .step { beforeFrame with inputs := [.frameReturn] } = .next t ∧ t.inFrameRoutine = true ∧
      exec .step { beforeFrame with inputs := [], frame := { beforeFrame.frame with routine := .noop } } = .next u :=
  ⟨_, _, rfl, rfl, by decide +kernel, rfl⟩
theorem witness_FrameReturnResumesTheStep_in_routine :
    inRoutine.inFrameRoutine = true ∧ inRoutine.inputs = [] ∧ State.reset.inputs = [] ∧
      ({ inRoutine with inputs := [.frameReturn] } : State).inputs = .frameReturn :: [] ∧
      ({ inRoutine with inputs := [.command 0x1001, .frameReturn] } : State).inputs = .command 0x1001 :: [.frameReturn] :=
  ⟨rfl, rfl, rfl, rfl, rfl⟩
theorem witness_StepKeepsWhatRegistersRead : State.reset.inFrameRoutine = false := rfl
theorem witness_StepWithoutTicks :
    State.reset.inFrameRoutine = false ∧ State.reset.frame.routine = .noop ∧
      (clockRun binary64 (clockStepOf binary64 State.reset.cfg.chipFreq State.reset.cfg.outRate State.reset.cfg.m)
        State.reset.cfg.m State.reset.clock.cycle).2 = 0 := by decide +kernel
theorem witness_StepWithoutTicks_host :
    (State.initial configP4 .host).inFrameRoutine = false ∧
      Binary64.lt (binary64.int 1) (Binary64.add (State.initial configP4 .host).frame.cycle
        (Binary64.div configP4.frameFreq configP4.outRate)) = false ∧
      (clockRun binary64 (clockStepOf binary64 configP4.chipFreq configP4.outRate configP4.m) configP4.m
        (State.initial configP4 .host).clock.cycle).2 = 0 := by decide +kernel
theorem witness_StepWithoutTicks_exact : (0 : ℚ) ≤ 1 / 4 ∧ (1 / 4 : ℚ) * (3 : Nat) < 1 := by norm_num
theorem witness_UnusedBitsHaveNoEffect :
    SameUsedBits standardConfig beforeStep3.x #v[2, 0xF0, 0, 0xF0, 0, 0xF0, 0, 0xFE, 0xEF, 0xE0, 0xE0, 0, 0, 0xF0] := by
  unfold SameUsedBits
  decide +kernel
theorem witness_InterpolatorAtHalfPhase : (1 : ℚ) + 4 = 2 + 3 := by norm_num
theorem witness_FirIsADecimatingConvolution :
    1 ≤ (2 : Nat) ∧ ([1, 2, 3, 4] : List ℚ).length = 2 * 2 ∧ (∀ b ∈ [[1, 0], [0, 0]], (b : List ℚ).length = 2) ∧
      1 < ([[1, 0], [0, 0]] : List (List ℚ)).length := by simp
theorem witness_BiasSumIsTheWindowSum :
    1 ≤ (1 : Nat) ∧ (1 : ℚ) ≠ 0 ∧ State.reset.bias.left.idx < State.reset.bias.left.buf.length :=
  ⟨by norm_num, by norm_num, by decide +kernel⟩
theorem witness_FirImpulseResponse :
    1 ≤ (3 : Nat) ∧ 1 ≤ (2 : Nat) ∧ (1 : Nat) < 2 ∧ ([1, 2, 3, 4, 5, 6] : List ℚ).length = 3 * 2 ∧ (3 : Nat) ≤ 3 := by simp
theorem witness_BiasConvergesToZero : 1 ≤ (2 : Nat) ∧ (1 : ℚ) ≠ 0 ∧ 2 ≤ 1 + 1 := by norm_num
theorem witness_GeneratedKernelShape : (0 : Nat) < 1 * 3 ∧ (2 : Nat) < 1 * 3 ∧ 1 = 1 * 3 / 2 := by decide
theorem witness_OperationsRoundToNearestEven :
    (binary64.int 1).isFinite = true ∧ (binary64.ratio 1 10).isFinite = true ∧ (binary64.int 1).toRat ≠ 0 ∧ 0 < (10 : Nat) := by
  refine ⟨by decide +kernel, by decide +kernel, ?_, by decide⟩
  have : (binary64.int 1).units ≠ 0 := by decide +kernel
  simp only [Binary64.toRat]
  positivity
theorem witness_OperationsRoundToNearestEven_overflow :
    (⟨0x7FEFFFFFFFFFFFFF⟩ : Binary64).isFinite = true ∧
      2 ^ 1024 - 2 ^ 970 ≤ |(⟨0x7FEFFFFFFFFFFFFF⟩ : Binary64).toRat + (⟨0x7FEFFFFFFFFFFFFF⟩ : Binary64).toRat| := by
  have h : (⟨0x7FEFFFFFFFFFFFFF⟩ : Binary64).units = (2 ^ 53 - 1) * 2 ^ 2045 := by decide +kernel
  refine ⟨by decide +kernel, ?_⟩
  have hv : (⟨0x7FEFFFFFFFFFFFFF⟩ : Binary64).toRat = (2 ^ 53 - 1) * (2 * 2 ^ 970) := by
    rw [Binary64.toRat, h, div_eq_iff (by positivity)]
    simp only [Int.cast_mul, Int.cast_sub, Int.cast_pow, Int.cast_ofNat, Int.cast_one]
    rw [show (2045 : Nat) = 1 + 970 + 1074 from rfl, pow_add, pow_add]
    generalize (2 : ℚ) ^ 970 = x, (2 : ℚ) ^ 1074 = y
    ring
  have hx : (0 : ℚ) < 2 ^ 970 := by positivity
  rw [hv, show (1024 : Nat) = 54 + 970 from rfl, pow_add]
  generalize (2 : ℚ) ^ 970 = x at hx
  rw [abs_of_pos (by norm_num; positivity)]
  norm_num
  linarith
theorem witness_ConstructionReportsTheFirstError :
    construct { standardRecord with taps := 0, biasN := 0 } .noop = .error .tapsZero ∧
      ({ State.reset with inputs := [.construct { standardRecord with taps := 0, biasN := 0 } .noop] } : State).inputs =
        .construct { standardRecord with taps := 0, biasN := 0 } .noop :: [] :=
  ⟨construct_of_error (by decide +kernel) _, rfl⟩
theorem witness_ConstructionState :
    construct standardRecord .host = .ok (State.initial (fixConfig standardRecord) .host) ∧
      ({ State.reset with inputs := [.construct standardRecord .host] } : State).inputs =
        .construct standardRecord .host :: [] :=
  ⟨construct_of_valid (by decide +kernel) _, rfl⟩
theorem witness_ConstructionFixesTheConfiguration :
    ∃ u, construct { standardRecord with taps := 2, kernel := none, firCutoff := binary64.ratio 1 4 } .noop = .ok u :=
  ⟨_, construct_of_valid (by decide +kernel) _⟩
theorem witness_ConstructionMeetsTheInvariant : ∃ u, construct standardRecord .noop = .ok u :=
  ⟨_, construct_of_valid (by decide +kernel) _⟩
theorem witness_ConfigurationNeverChanges_move :
    (∃ t, step { inRoutine with inputs := [.frameReturn] } = .next t) ∧
      (∀ (c : RawConfig) (r : Routine) (rest : List HostEvent), [HostEvent.frameReturn] ≠ .construct c r :: rest) ∧
      inRoutine.clock.step = clockStepOf binary64 inRoutine.cfg.chipFreq inRoutine.cfg.outRate inRoutine.cfg.m :=
  ⟨⟨_, rfl⟩, fun _ _ _ h => (by cases h), rfl⟩
theorem witness_ConfigurationNeverChanges :
    (∃ t, exec .step State.reset = .next t) ∧
      State.reset.clock.step = clockStepOf binary64 State.reset.cfg.chipFreq State.reset.cfg.outRate State.reset.cfg.m :=
  ⟨⟨_, rfl⟩, rfl⟩

/-- Configuration T passes the checks the invariant records. -/
theorem witness_config : ConfigValid standardConfig := by constructor <;> decide +kernel

/-- A running state with a STEP pending meets the invariant, and the step is taken. -/
theorem witness_StepKeepsTheInvariant :
    Inv { beforeStep3 with inputs := [.command 0x3000] } ∧
      ∃ t, step { beforeStep3 with inputs := [.command 0x3000] } = .next t := by
  have hf (f : Fir Binary64) (h : f = { buf := [Binary64.zero, Binary64.zero], idx := 0 }) : FirValid standardConfig f := by
    subst h
    constructor <;> decide +kernel
  have hb (b : Bias Binary64) (h : b = { buf := [Binary64.zero, Binary64.zero], sum := Binary64.zero, idx := 0 }) :
      BiasValid standardConfig b := by
    subst h
    constructor <;> decide +kernel
  exact
    ⟨{ cfg := witness_config
       tone := by decide +kernel
       noise := by decide +kernel
       lfsr := by decide +kernel
       env := by decide +kernel
       firLeft := hf _ (by decide +kernel)
       firRight := hf _ (by decide +kernel)
       biasLeft := hb _ (by decide +kernel)
       biasRight := hb _ (by decide +kernel)
       clockStep := rfl
       clockCycle := by decide +kernel
       frameCycle := by decide +kernel
       routine := fun h => by cases h },
     ⟨_, rfl⟩⟩
theorem witness_RefusalMarkIsNeverCleared :
    ({ State.reset with refused := true, inputs := [.command 0x4000] } : State).refused = true ∧
      (∃ t, step { State.reset with refused := true, inputs := [.command 0x4000] } = .next t) ∧
      ∀ (c : RawConfig) (r : Routine) (rest : List HostEvent), [HostEvent.command 0x4000] ≠ .construct c r :: rest :=
  ⟨rfl, ⟨_, rfl⟩, fun _ _ _ h => by cases h⟩

end Sys2Proof.Machine.Slice0
end

