-- ==== Sys2Proof/Proofs/Scope.lean ====
section
/-! SUPPORT. Proofs/Scope.lean: a step on a command word, from the queue of moves and through `withFetchWord`. -/

namespace Sys2Proof.Machine

/-- A word that decodes runs its command (20_memory R111). -/
theorem execWord_of_decode {w : CmdWord} {i : Instr} (h : decode w = .ok i) (s : State) : execWord w s = exec i s := by
  simp only [execWord, h]

/-- A step takes the command word at the head of the queue and runs it without that move (assumption log 4). -/
theorem step_of_command {s : State} {w : CmdWord} {rest : List HostEvent} (h : s.inputs = .command w :: rest) :
    step s = execWord w { s with inputs := rest } := by
  simp only [step, nextMove, h, execMove]

/-- A command word put at the head of the queue is taken again by the step: it runs at the state it was put to. -/
theorem step_pushCommand (w : CmdWord) (s : State) : step (pushCommand w s) = execWord w s :=
  step_of_command (pushCommand_inputs w s)

/-- The decoder of raw bits answers a command exactly where the word of its low bits decodes to it. -/
theorem decodeTableWord_eq_some_iff {nbits w : Nat} {i : Instr} :
    decodeTableWord nbits w = some i ↔ decode (BitVec.ofNat 16 (w % 2 ^ nbits)) = .ok i := by
  unfold decodeTableWord
  cases decode (BitVec.ofNat 16 (w % 2 ^ nbits)) with
  | ok j => simp
  | error e => simp

/-- Settles O7: both a queued word and a fetched one reach `execWord`, at the state without that move. -/
theorem stepRunsTheDecodedCommand : Obligations.StepRunsTheDecodedCommand := by
  refine ⟨fun s w rest i hq hd => ?_, fun s nbits w i ht => ?_⟩
  · rw [step_of_command hq, execWord_of_decode hd]
  · have hd := decodeTableWord_eq_some_iff.1 ht
    rw [State.withFetchWord, step_pushCommand, execWord_of_decode hd]

end Sys2Proof.Machine
end

/-! SUPPORT. What every step keeps: the ranges of binary64 results (the sign, the class and a bound of a rounded magnitude), the ranges
of the oscillators, accumulators and filters, the invariant of 10_state R70, the refusal mark (R62), and that the register bits no
rule uses have no effect (R57, R58). -/

namespace Sys2Proof.Binary64

/-! ### A datum from its sign and its other bits -/

theorem ofSignBits_toNat (neg : Bool) {p : Nat} (h : p < 2 ^ 63) :
    (ofSignBits neg p).bits.toNat = (if neg then 2 ^ 63 else 0) + p := by
  simp only [ofSignBits, BitVec.toNat_ofNat]
  split <;> omega

theorem ofSignBits_sign (neg : Bool) {p : Nat} (h : p < 2 ^ 63) : (ofSignBits neg p).sign = neg := by
  rw [sign, BitVec.msb_eq_decide, ofSignBits_toNat neg h]
  cases neg with
  | false => simp; omega
  | true => simp

theorem ofSignBits_expField (neg : Bool) {p : Nat} (h : p < 2 ^ 63) : (ofSignBits neg p).expField = p / 2 ^ 52 := by
  rw [expField, ofSignBits_toNat neg h]
  split <;> omega

theorem ofSignBits_fracField (neg : Bool) {p : Nat} (h : p < 2 ^ 63) : (ofSignBits neg p).fracField = p % 2 ^ 52 := by
  rw [fracField, ofSignBits_toNat neg h]
  split <;> omega

/-- The bits `k * 2^52 + r` stand for the magnitude `r * 2^k`, for a significand `r` in its range or just past it: the carry moves
into the exponent field. -/
theorem ofSignBits_mag (neg : Bool) {k r : Nat} (hr : r ≤ 2 ^ 53) (hk : k = 0 ∨ 2 ^ 52 ≤ r) (h : k * 2 ^ 52 + r < 2 ^ 63) :
    (ofSignBits neg (k * 2 ^ 52 + r)).mag = r * 2 ^ k := by
  rw [mag, ofSignBits_expField neg h, ofSignBits_fracField neg h, pow2_eq]
  obtain hlow | hmid | rfl : r < 2 ^ 52 ∨ (2 ^ 52 ≤ r ∧ r < 2 ^ 53) ∨ r = 2 ^ 53 := by omega
  · obtain rfl : k = 0 := by omega
    rw [if_pos (by omega)]
    omega
  · rw [if_neg (by omega), show (k * 2 ^ 52 + r) / 2 ^ 52 - 1 = k by omega,
      show (k * 2 ^ 52 + r) % 2 ^ 52 + 2 ^ 52 = r by omega]
  · rw [if_neg (by omega), show (k * 2 ^ 52 + 2 ^ 53) / 2 ^ 52 - 1 = k + 1 by omega,
      show (k * 2 ^ 52 + 2 ^ 53) % 2 ^ 52 + 2 ^ 52 = 2 ^ 52 by omega]
    ring

theorem units_nonneg_iff {a : Binary64} : 0 ≤ a.units ↔ a.sign = false ∨ a.mag = 0 := by
  unfold units
  cases a.sign <;> simp

theorem sign_of_units_pos {a : Binary64} (h : 0 < a.units) : a.sign = false := by
  unfold units at h
  cases hs : a.sign
  · rfl
  · rw [hs] at h
    simp at h
    omega

theorem units_of_sign {a : Binary64} (h : a.sign = false) : a.units = a.mag := by simp [units, h]

theorem neg_sign (a : Binary64) : a.neg.sign = !a.sign := by
  have h : (0x8000000000000000 : BitVec 64).msb = true := rfl
  rw [neg, sign, sign, BitVec.msb_xor, h, Bool.xor_true]

/-- The sign flip leaves the other 63 bits. -/
theorem neg_bits_mod (a : Binary64) : a.neg.bits.toNat % 2 ^ 63 = a.bits.toNat % 2 ^ 63 := by
  have h : a.neg.bits.setWidth 63 = a.bits.setWidth 63 := by simp [neg]
  simpa using congrArg BitVec.toNat h

@[simp] theorem neg_expField (a : Binary64) : a.neg.expField = a.expField := by
  have h := neg_bits_mod a
  simp only [expField]
  omega

@[simp] theorem neg_fracField (a : Binary64) : a.neg.fracField = a.fracField := by
  have h := neg_bits_mod a
  simp only [fracField]
  omega

@[simp] theorem neg_units (a : Binary64) : a.neg.units = -a.units := by
  simp only [units, mag, neg_sign, neg_expField, neg_fracField]
  cases a.sign <;> simp

@[simp] theorem neg_isFinite (a : Binary64) : a.neg.isFinite = a.isFinite := by simp [isFinite]

theorem zeroOf_mag (s : Bool) : (zeroOf s).mag = 0 := by
  simpa [zeroOf] using ofSignBits_mag s (k := 0) (r := 0) (by omega) (.inl rfl) (by omega)

@[simp] theorem zeroOf_units (s : Bool) : (zeroOf s).units = 0 := by simp [units, zeroOf_mag]

/-! ### Classes of data -/

/-- The exponent field bounds the magnitude from below. -/
theorem expField_le_of_mag_le {a : Binary64} {e j : Nat} (he : a.expField = e + 1) (h : a.mag ≤ 2 ^ j) : 52 + e ≤ j := by
  rw [mag, he, if_neg (by omega), pow2_eq, Nat.add_sub_cancel] at h
  have hlow := (Nat.mul_le_mul_right (2 ^ e) (Nat.le_add_left (2 ^ 52) a.fracField)).trans h
  rwa [← pow_add, Nat.pow_le_pow_iff_right Nat.one_lt_two] at hlow

/-- A magnitude below that of the infinity is a finite one's. -/
theorem isFinite_of_mag_le {a : Binary64} {j : Nat} (hj : j ≤ 2000) (h : a.mag ≤ 2 ^ j) : a.isFinite = true := by
  rw [isFinite, decide_eq_true_eq]
  intro he
  have := expField_le_of_mag_le (e := 2046) he h
  omega

theorem mag_ne_zero_of_isInf {a : Binary64} (h : a.isInf = true) : a.mag ≠ 0 := by
  simp only [isInf, Bool.and_eq_true, decide_eq_true_eq] at h
  rw [mag, if_neg (by omega), pow2_eq]
  positivity

theorem isInf_or_isFinite {a : Binary64} (h : a.isNaN = false) : a.isInf = true ∨ a.isFinite = true := by
  simp only [isNaN, isInf, isFinite, Bool.and_eq_false_iff, Bool.and_eq_true, decide_eq_true_eq, decide_eq_false_iff_not] at h ⊢
  omega

theorem le_eq_true_iff {a b : Binary64} :
    le a b = true ↔ a.isNaN = false ∧ b.isNaN = false ∧ a.units ≤ b.units := by
  simp [le, and_assoc]

theorem lt_eq_true_iff {a b : Binary64} :
    lt a b = true ↔ a.isNaN = false ∧ b.isNaN = false ∧ a.units < b.units := by
  simp [lt, and_assoc]

theorem le_of_not_lt {a b : Binary64} (ha : a.isNaN = false) (hb : b.isNaN = false) (h : lt a b = false) : le b a = true := by
  simp only [lt, ha, hb, Bool.not_false, Bool.true_and, decide_eq_false_iff_not, not_lt] at h
  exact le_eq_true_iff.2 ⟨hb, ha, h⟩

theorem lt_of_not_le {a b : Binary64} (ha : a.isNaN = false) (hb : b.isNaN = false) (h : le a b = false) : lt b a = true := by
  simp only [le, ha, hb, Bool.not_false, Bool.true_and, decide_eq_false_iff_not, not_le] at h
  exact lt_eq_true_iff.2 ⟨hb, ha, h⟩

/-! ### The rounded quotient and the spacing -/

theorem divNearestEven_le {n a e : Nat} (h : n ≤ a * e) : divNearestEven n e ≤ a := by
  obtain rfl | he := Nat.eq_zero_or_pos e
  · obtain rfl : n = 0 := by omega
    simp [divNearestEven]
  obtain rfl | hlt := h.eq_or_lt
  · rw [divNearestEven_mul a he]
  · have hq : n / e < a := (Nat.div_lt_iff_lt_mul he).2 hlt
    obtain h | h := divNearestEven_cases n e <;> omega

theorem le_divNearestEven {n a e : Nat} (he : 0 < e) (h : a * e ≤ n) : a ≤ divNearestEven n e := by
  have hq : a ≤ n / e := (Nat.le_div_iff_mul_le he).2 h
  obtain h | h := divNearestEven_cases n e <;> omega

theorem spacing_cases (q : Nat) :
    (q < 2 ^ 53 ∧ spacing q = 0) ∨ (2 ^ 52 * 2 ^ spacing q ≤ q ∧ q < 2 ^ 53 * 2 ^ spacing q) := by
  unfold spacing
  split
  · exact .inl ⟨‹_›, rfl⟩
  · rename_i h
    have h53 : 53 ≤ Nat.log2 q := (Nat.le_log2 (by omega)).2 (by omega)
    refine .inr ⟨?_, ?_⟩
    · rw [← pow_add, Nat.add_sub_cancel' (by omega)]
      exact Nat.log2_self_le (by omega)
    · rw [← pow_add, show 53 + (Nat.log2 q - 52) = Nat.log2 q + 1 by omega]
      exact Nat.lt_log2_self

/-- The significand of a rounding: the quotient in units of the spacing, rounded. -/
def significand (n d : Nat) : Nat := divNearestEven n (d * 2 ^ spacing (n / d))

theorem roundBits_eq (n d : Nat) : roundBits n d = spacing (n / d) * 2 ^ 52 + significand n d := by
  simp only [roundBits, significand, pow2_eq]

theorem significand_le {n d : Nat} (hd : 0 < d) : significand n d ≤ 2 ^ 53 := by
  have hq : n / d < 2 ^ 53 * 2 ^ spacing (n / d) := by
    obtain ⟨h, hs⟩ | ⟨-, h⟩ := spacing_cases (n / d)
    · rw [hs]
      omega
    · exact h
  refine divNearestEven_le ?_
  have := (Nat.div_lt_iff_lt_mul hd).1 hq
  rw [mul_left_comm, mul_comm d]
  omega

theorem le_significand {n d : Nat} (hd : 0 < d) : spacing (n / d) = 0 ∨ 2 ^ 52 ≤ significand n d := by
  obtain ⟨-, hs⟩ | ⟨h, -⟩ := spacing_cases (n / d)
  · exact .inl hs
  · refine .inr (le_divNearestEven (by positivity) ?_)
    rw [mul_left_comm, mul_comm d]
    exact (Nat.le_div_iff_mul_le hd).1 h

/-! ### A rounded magnitude -/

/-- The rounded datum, overflow included: its low bits never pass those of the infinity. -/
theorem ofMag_eq (neg : Bool) (n d : Nat) : ofMag neg n d = ofSignBits neg (min (roundBits n d) (2047 * 2 ^ 52)) := by
  simp only [ofMag, infOf]
  split
  · rw [min_eq_left (by omega)]
  · rw [min_eq_right (by omega)]

theorem ofMag_sign (neg : Bool) (n d : Nat) : (ofMag neg n d).sign = neg := by
  rw [ofMag_eq, ofSignBits_sign neg (by omega)]

theorem ofMag_isNaN (neg : Bool) (n d : Nat) : (ofMag neg n d).isNaN = false := by
  have h : min (roundBits n d) (2047 * 2 ^ 52) < 2 ^ 63 := by omega
  rw [ofMag_eq, isNaN, ofSignBits_expField neg h, ofSignBits_fracField neg h, Bool.and_eq_false_iff, decide_eq_false_iff_not,
    decide_eq_false_iff_not]
  omega

/-- Where it does not overflow, a rounded magnitude is its significand in units of its spacing (00_scope R20). -/
theorem ofMag_mag (neg : Bool) {n d : Nat} (hd : 0 < d) (h : roundBits n d < 2047 * 2 ^ 52) :
    (ofMag neg n d).mag = significand n d * 2 ^ spacing (n / d) := by
  rw [roundBits_eq] at h
  rw [ofMag_eq, roundBits_eq, min_eq_left (by omega), ofSignBits_mag neg (significand_le hd) (le_significand hd) (by omega)]

/-- Rounding does not pass a power of two, which is a datum. -/
theorem ofMag_mag_le (neg : Bool) {n d j : Nat} (hd : 0 < d) (hj : j ≤ 2000) (h : n ≤ 2 ^ j * d) :
    (ofMag neg n d).mag ≤ 2 ^ j := by
  have hk : spacing (n / d) ≤ j := by
    obtain ⟨-, hs⟩ | ⟨hs, -⟩ := spacing_cases (n / d)
    · omega
    · have hq : n / d ≤ 2 ^ j := Nat.div_le_of_le_mul (by rwa [mul_comm])
      rw [← pow_add] at hs
      have := (Nat.pow_le_pow_iff_right Nat.one_lt_two).1 (hs.trans hq)
      omega
  have hp : 2 ^ j = 2 ^ (j - spacing (n / d)) * 2 ^ spacing (n / d) := by rw [← pow_add, Nat.sub_add_cancel hk]
  have hr : significand n d ≤ 2 ^ (j - spacing (n / d)) :=
    divNearestEven_le (by rwa [mul_left_comm, ← hp, mul_comm])
  rw [ofMag_mag neg hd (by rw [roundBits_eq]; have := significand_le (n := n) hd; omega), hp]
  exact Nat.mul_le_mul_right _ hr

theorem ofMag_zero_mag (neg : Bool) (d : Nat) : (ofMag neg 0 d).mag = 0 := by
  have h : roundBits 0 d = 0 := by simp [roundBits, spacing, divNearestEven]
  rw [ofMag_eq, h]
  exact zeroOf_mag neg

/-! ### Operations on data that are not negative -/

theorem ofMag_units_nonneg {neg : Bool} {n d : Nat} (h : neg = false ∨ n = 0) : 0 ≤ (ofMag neg n d).units := by
  rw [units_nonneg_iff, ofMag_sign]
  exact h.imp id fun h => by rw [h, ofMag_zero_mag]

theorem nan_units_nonneg : 0 ≤ nan.units := by decide +kernel

theorem infOf_sign (neg : Bool) : (infOf neg).sign = neg := ofSignBits_sign neg (by omega)

theorem infOf_false_units_nonneg : 0 ≤ (infOf false).units := units_nonneg_iff.2 (.inl (infOf_sign false))

theorem sign_of_units_nonneg {a : Binary64} (h : 0 ≤ a.units) (h0 : a.mag ≠ 0) : a.sign = false :=
  (units_nonneg_iff.1 h).resolve_right h0

theorem ratio_sign (n : Int) (d : Nat) : (ratio n d).sign = decide (n < 0) := by rw [ratio, ofMag_sign]

theorem mul_units_nonneg {a b : Binary64} (ha : 0 ≤ a.units) (hb : b.sign = false) : 0 ≤ (mul a b).units := by
  have hs : (a.sign != b.sign) = false ∨ a.mag = 0 := by simpa [hb] using units_nonneg_iff.1 ha
  unfold mul
  dsimp only
  split
  · exact nan_units_nonneg
  split
  · split
    · exact nan_units_nonneg
    · rw [hs.resolve_right (by tauto)]
      exact infOf_false_units_nonneg
  · exact ofMag_units_nonneg (hs.imp id fun h => by rw [h, zero_mul])

theorem div_units_nonneg {a b : Binary64} (ha : 0 ≤ a.units) (hb : b.sign = false) : 0 ≤ (div a b).units := by
  have hs : (a.sign != b.sign) = false ∨ a.mag = 0 := by simpa [hb] using units_nonneg_iff.1 ha
  unfold div
  dsimp only
  split
  · exact nan_units_nonneg
  split
  · rename_i hi
    split
    · exact nan_units_nonneg
    · rw [hs.resolve_right (mag_ne_zero_of_isInf hi)]
      exact infOf_false_units_nonneg
  split
  · exact (zeroOf_units _).ge
  split
  · split
    · exact nan_units_nonneg
    · rw [hs.resolve_right ‹_›]
      exact infOf_false_units_nonneg
  · exact ofMag_units_nonneg (hs.imp id fun h => by rw [h, zero_mul])

/-- The value 1.0, in the units of the data. -/
theorem one_units : (binary64.int 1).units = 2 ^ 1074 := by decide +kernel

theorem one_isFinite : (binary64.int 1).isFinite = true := by decide +kernel

theorem zero_units : zero.units = 0 := by decide +kernel

theorem zero_isNaN : zero.isNaN = false := by decide +kernel

theorem zero_le_iff {a : Binary64} : le zero a = true ↔ a.isNaN = false ∧ 0 ≤ a.units := by
  simp [le_eq_true_iff, zero_isNaN, zero_units]

theorem le_one_iff {a : Binary64} : le a (binary64.int 1) = true ↔ a.isNaN = false ∧ a.units ≤ 2 ^ 1074 := by
  rw [le_eq_true_iff, (not_special_of_isFinite one_isFinite).1, one_units]
  tauto

/-- A datum in `[0, 2^j]` units is finite. -/
theorem isFinite_of_units_le {a : Binary64} {j : Nat} (hj : j ≤ 2000) (h0 : 0 ≤ a.units) (h : a.units ≤ 2 ^ j) :
    a.isFinite = true := by
  refine isFinite_of_mag_le hj ?_
  obtain hs | hz := units_nonneg_iff.1 h0
  · rw [units_of_sign hs] at h
    exact_mod_cast h
  · rw [hz]
    exact Nat.zero_le _

/-- A finite sum whose exact value is not negative rounds to a number that is not. -/
theorem zero_le_add_of_isFinite {a b : Binary64} (ha : a.isFinite = true) (hb : b.isFinite = true)
    (h : 0 ≤ a.units + b.units) : le zero (add a b) = true := by
  rw [add_of_isFinite ha hb, zero_le_iff]
  split
  · exact ⟨(not_special_of_isFinite (isFinite_of_mag_le (j := 0) (by omega) (by simp [zeroOf_mag]))).1, (zeroOf_units _).ge⟩
  · exact ⟨ofMag_isNaN _ _ _, ofMag_units_nonneg (.inl (by simpa using h))⟩

/-- A finite sum whose exact value is at most a power of two rounds to at most that. -/
theorem add_units_le {a b : Binary64} {j : Nat} (hj : j ≤ 2000) (ha : a.isFinite = true) (hb : b.isFinite = true)
    (h0 : 0 ≤ a.units + b.units) (h : a.units + b.units ≤ 2 ^ j) : (add a b).units ≤ 2 ^ j := by
  rw [add_of_isFinite ha hb]
  split
  · rw [zeroOf_units]
    positivity
  · have hn : (a.units + b.units).natAbs ≤ 2 ^ j * 1 := by
      rw [mul_one]
      zify
      rwa [abs_of_nonneg h0]
    rw [decide_eq_false (not_lt.2 h0), units_of_sign (ofMag_sign _ _ _)]
    exact_mod_cast ofMag_mag_le false Nat.one_pos hj hn

theorem zero_le_add {a b : Binary64} (ha : le zero a = true) (hb : le zero b = true) : le zero (add a b) = true := by
  obtain ⟨han, ha0⟩ := zero_le_iff.1 ha
  obtain ⟨hbn, hb0⟩ := zero_le_iff.1 hb
  obtain hai | haf := isInf_or_isFinite han
  · have hsame : b.isInf = true → b.sign = a.sign := fun hbi =>
      (sign_of_units_nonneg hb0 (mag_ne_zero_of_isInf hbi)).trans (sign_of_units_nonneg ha0 (mag_ne_zero_of_isInf hai)).symm
    have : add a b = a := by
      simp only [add, han, hbn, hai, Bool.or_self, Bool.false_eq_true, if_false, if_true]
      rw [if_neg]
      simp +contextual [hsame]
    rwa [this]
  obtain hbi | hbf := isInf_or_isFinite hbn
  · have : add a b = b := by simp [add, not_special_of_isFinite haf, hbn, hbi]
    rwa [this]
  · exact zero_le_add_of_isFinite haf hbf (by omega)

/-- Taking a finite number from a greater one. -/
theorem zero_le_sub {a b : Binary64} (hb : b.isFinite = true) (h : lt b a = true) (h0 : 0 ≤ b.units) :
    le zero (sub a b) = true := by
  obtain ⟨-, han, hlt⟩ := lt_eq_true_iff.1 h
  have hbf : b.neg.isFinite = true := by rwa [neg_isFinite]
  obtain hai | haf := isInf_or_isFinite han
  · have : sub a b = a := by simp [sub, add, not_special_of_isFinite hbf, han, hai]
    rw [this, zero_le_iff]
    exact ⟨han, by omega⟩
  · rw [sub]
    exact zero_le_add_of_isFinite haf hbf (by rw [neg_units]; omega)

/-- What is left after taking 1 from more than 1. -/
theorem zero_le_sub_one {a : Binary64} (h : lt (binary64.int 1) a = true) : le zero (sub a (binary64.int 1)) = true :=
  zero_le_sub one_isFinite h (by rw [one_units]; positivity)

/-- What is left after taking 1 from at most 2 is at most 1. -/
theorem sub_one_le_one {a : Binary64} (h : lt (binary64.int 1) a = true) (h2 : a.units ≤ 2 ^ 1075) :
    le (sub a (binary64.int 1)) (binary64.int 1) = true := by
  obtain ⟨-, -, hlt⟩ := lt_eq_true_iff.1 h
  refine le_one_iff.2 ⟨(zero_le_iff.1 (zero_le_sub_one h)).1, ?_⟩
  rw [one_units] at hlt
  have haf : a.isFinite = true := isFinite_of_units_le (by omega) (by omega) h2
  rw [sub]
  exact add_units_le (by omega) haf (by rw [neg_isFinite, one_isFinite]) (by rw [neg_units, one_units]; omega)
    (by rw [neg_units, one_units]; omega)

/-- A sum of two data of `[0, 1]` is at most 2. -/
theorem add_units_le_two {a b : Binary64} (ha : le zero a = true) (ha1 : le a (binary64.int 1) = true)
    (hb : le zero b = true) (hb1 : le b (binary64.int 1) = true) : (add a b).units ≤ 2 ^ 1075 := by
  rw [zero_le_iff] at ha hb
  rw [le_one_iff] at ha1 hb1
  exact add_units_le (by omega) (isFinite_of_units_le (by omega) ha.2 ha1.2) (isFinite_of_units_le (by omega) hb.2 hb1.2)
    (by omega) (by omega)

theorem le_one_of_not_lt {a : Binary64} (ha : le zero a = true) (h : lt (binary64.int 1) a = false) :
    le a (binary64.int 1) = true :=
  le_of_not_lt (not_special_of_isFinite one_isFinite).1 (zero_le_iff.1 ha).1 h

end Sys2Proof.Binary64

namespace Sys2Proof.Machine

/-! ### The ranges of the oscillators -/

theorem max1_range {v n : Nat} (h : v ≤ n) (hn : 1 ≤ n) : 1 ≤ max1 v ∧ max1 v ≤ n := by
  unfold max1
  split <;> omega

theorem bytePair_eq (fine coarse : Byte) : bytePair fine coarse = fine.toNat + 256 * coarse.toNat := by
  rw [bytePair, Nat.or_comm, ← Nat.shiftLeft_add_eq_or_of_lt fine.isLt, Nat.shiftLeft_eq]
  omega

theorem and_nibble_toNat_le (v : Byte) : (v &&& 0x0F).toNat ≤ 15 := by
  rw [BitVec.toNat_and]
  exact Nat.and_le_right

/-- A tone period of a clamped file is in its range (10_state R70). -/
theorem tonePeriod_range (c : Config) (x : Vector Byte 14) (i : Fin 3) :
    1 ≤ tonePeriod (clampFile c x) i ∧ tonePeriod (clampFile c x) i ≤ 4095 := by
  have hm : regMask c (coarseAddr i) = 0x0F := by fin_cases i <;> rfl
  refine max1_range ?_ (by omega)
  rw [bytePair_eq, clampFile_getElem c x (coarseAddr i), hm]
  have := and_nibble_toNat_le x[coarseAddr i]
  omega

/-- A noise period is in its range (10_state R70). -/
theorem noisePeriod_range (x : Vector Byte 14) : 1 ≤ noisePeriod x ∧ noisePeriod x ≤ 510 := by
  refine max1_range ?_ (by omega)
  rw [Nat.shiftLeft_eq]
  omega

/-- An envelope period is in its range (10_state R70). -/
theorem envPeriod_range (x : Vector Byte 14) : 1 ≤ envPeriod x ∧ envPeriod x ≤ 65535 := by
  refine max1_range ?_ (by omega)
  rw [bytePair_eq]
  omega

theorem envChange_period (e : Env) : (envChange e).period = e.period := by
  unfold envChange
  split <;> rfl

theorem mapEnv_period (c : Config) (x : Vector Byte 14) (e : Env) : (mapEnv c x e).period = envPeriod x :=
  envChange_period _

/-- A tone channel after map and tick is in its ranges, whatever they were (40_register_interface R179, 41_tone_noise R221). -/
theorem toneTick_mapTone_range (c : Config) (x : Vector Byte 14) (i : Fin 3) (t : Tone) :
    1 ≤ (toneTick (mapTone (clampFile c x) i t)).period ∧ (toneTick (mapTone (clampFile c x) i t)).period ≤ 4095 ∧
      (toneTick (mapTone (clampFile c x) i t)).counter < (toneTick (mapTone (clampFile c x) i t)).period := by
  have hp : 1 ≤ (mapTone (clampFile c x) i t).period ∧ (mapTone (clampFile c x) i t).period ≤ 4095 := tonePeriod_range c x i
  rw [toneTick_period]
  exact ⟨hp.1, hp.2, toneTick_counter_lt hp.1⟩

/-- The noise channel after map and tick is in its ranges (40_register_interface R180, 41_tone_noise R224). -/
theorem noiseTick_mapNoise_range (pos : LfsrFbPos) (x : Vector Byte 14) (n : Noise) :
    1 ≤ (noiseTick pos (mapNoise x n)).period ∧ (noiseTick pos (mapNoise x n)).period ≤ 510 ∧
      (noiseTick pos (mapNoise x n)).counter < (noiseTick pos (mapNoise x n)).period := by
  have hp : 1 ≤ (mapNoise x n).period ∧ (mapNoise x n).period ≤ 510 := noisePeriod_range x
  rw [noiseTick_period]
  exact ⟨hp.1, hp.2, noiseTick_counter_lt hp.1⟩

/-- The envelope after map and tick is in its ranges (40_register_interface R181, 42_envelope R260). -/
theorem envTick_mapEnv_range (c : Config) (x : Vector Byte 14) (e : Env) :
    1 ≤ (envTick (mapEnv c x e)).period ∧ (envTick (mapEnv c x e)).period ≤ 65535 ∧
      (envTick (mapEnv c x e)).counter < (envTick (mapEnv c x e)).period := by
  have hp : 1 ≤ (mapEnv c x e).period ∧ (mapEnv c x e).period ≤ 65535 := by
    rw [mapEnv_period]
    exact envPeriod_range x
  rw [envTick_period]
  exact ⟨hp.1, hp.2, envTick_counter_lt hp.1⟩

/-! ### The LFSR -/

/-- The bit of the shifted state that the feedback goes to (41_tone_noise R225, R226). -/
def feedbackBit : LfsrFbPos → Nat
  | .pos16 => 16
  | .pos15 => 15

theorem lfsrFeedback_shift_getLsbD (s : BitVec 17) (i : Nat) :
    (lfsrFeedback s <<< 16).getLsbD i = (decide (i = 16) && xor (s.getLsbD 0) (s.getLsbD 3)) := by
  rw [lfsrFeedback, BitVec.getLsbD_shiftLeft]
  obtain hi | rfl | hi := lt_trichotomy i 16
  · simp [hi, hi.ne]
  · cases xor (s.getLsbD 0) (s.getLsbD 3) <;> simp
  · simp [show ¬i < 17 by omega, hi.ne']

/-- Every bit moves down by one, and the feedback is joined to the bit of the position (41_tone_noise R225). -/
theorem lfsrNext_getLsbD (pos : LfsrFbPos) (s : BitVec 17) (i : Nat) :
    (lfsrNext pos s).getLsbD i =
      (s.getLsbD (i + 1) || (decide (i = feedbackBit pos) && xor (s.getLsbD 0) (s.getLsbD 3))) := by
  cases pos with
  | pos16 =>
    rw [lfsrNext, BitVec.getLsbD_or, BitVec.getLsbD_ushiftRight, lfsrFeedback_shift_getLsbD, Nat.add_comm 1 i, feedbackBit]
  | pos15 =>
    rw [lfsrNext, BitVec.getLsbD_ushiftRight, BitVec.getLsbD_or, lfsrFeedback_shift_getLsbD, Nat.add_comm 1 i, feedbackBit]
    simp

/-- A shift of a state other than 0 is not 0, at either position: were it 0, the bits moved down and the feedback would be 0, so
the state's own bits too (41_tone_noise R228). -/
theorem lfsrNext_ne_zero (pos : LfsrFbPos) {s : BitVec 17} (h : s ≠ 0) : lfsrNext pos s ≠ 0 := by
  intro h0
  have hbit (i : Nat) : s.getLsbD (i + 1) = false ∧
      (i = feedbackBit pos → xor (s.getLsbD 0) (s.getLsbD 3) = false) := by
    have := lfsrNext_getLsbD pos s i
    rw [h0] at this
    simpa using this.symm
  have hfb := (hbit (feedbackBit pos)).2 rfl
  rw [(hbit 2).1, Bool.xor_false] at hfb
  refine h (BitVec.eq_of_getLsbD_eq fun i hi => ?_)
  cases i with
  | zero => simpa using hfb
  | succ i => simpa using (hbit i).1

@[simp] theorem mapNoise_lfsr (x : Vector Byte 14) (n : Noise) : (mapNoise x n).lfsr = n.lfsr := rfl

theorem noiseTick_lfsr_ne_zero (pos : LfsrFbPos) {n : Noise} (h : n.lfsr ≠ 0) : (noiseTick pos n).lfsr ≠ 0 := by
  unfold noiseTick
  dsimp only
  split
  · exact lfsrNext_ne_zero pos h
  · exact h

/-! ### The accumulators -/

theorem binary64_mul : binary64.mul = Binary64.mul := rfl

theorem binary64_div : binary64.div = Binary64.div := rfl

theorem binary64_ratio : binary64.ratio = Binary64.ratio := rfl

theorem clockStepOf_binary64 (f r : Binary64) (m : Nat) :
    clockStepOf binary64 f r m =
      Binary64.div (Binary64.div (Binary64.mul f (Binary64.ratio 1 8)) r) (Binary64.ratio m 1) := by
  rw [clockStepOf, Arith.int, binary64_div, binary64_mul, binary64_ratio]

theorem frameStepOf_binary64 (f r : Binary64) : frameStepOf binary64 f r = Binary64.div f r := by
  rw [frameStepOf, binary64_div]

/-- `[0, 1]`, the range of the accumulators (44_clock_step R331). -/
def InUnit (v : Binary64) : Prop := Binary64.le Binary64.zero v = true ∧ Binary64.le v (binary64.int 1) = true

theorem inUnit_int_zero : InUnit (binary64.int 0) := by
  unfold InUnit
  decide +kernel

theorem inUnit_zero : InUnit Binary64.zero := by
  unfold InUnit
  decide +kernel

section
variable {α : Type} {A : Arith α} {cycle st : α} {rem : FrameRemainder}

theorem clockAdvance_of_lt (h : A.lt (A.int 1) (A.add cycle st) = true) :
    clockAdvance A cycle st = (A.sub (A.add cycle st) (A.int 1), true) := by simp [clockAdvance, h]

theorem clockAdvance_of_not_lt (h : A.lt (A.int 1) (A.add cycle st) = false) :
    clockAdvance A cycle st = (A.add cycle st, false) := by simp [clockAdvance, h]

theorem frameAdvance_drop_of_lt (h : A.lt (A.int 1) (A.add cycle st) = true) :
    frameAdvance A .drop cycle st = (A.int 0, true) := by simp [frameAdvance, h]

theorem frameAdvance_keep_of_lt (h : A.lt (A.int 1) (A.add cycle st) = true) :
    frameAdvance A .keep cycle st = (A.sub (A.add cycle st) (A.int 1), true) := by simp [frameAdvance, h]

theorem frameAdvance_of_not_lt (h : A.lt (A.int 1) (A.add cycle st) = false) :
    frameAdvance A rem cycle st = (A.add cycle st, false) := by simp [frameAdvance, h]

end

/-- The clock accumulator stays in its range: the sum is at most 2, and what remains after taking 1 from more than 1 is at most 1,
each rounded (44_clock_step R331). -/
theorem clockAdvance_inUnit {cycle st : Binary64} (hc : InUnit cycle) (hs : InUnit st) :
    InUnit (clockAdvance binary64 cycle st).1 := by
  have h0 : Binary64.le Binary64.zero (Binary64.add cycle st) = true := Binary64.zero_le_add hc.1 hs.1
  cases hlt : binary64.lt (binary64.int 1) (binary64.add cycle st) with
  | true =>
    rw [clockAdvance_of_lt hlt]
    exact ⟨Binary64.zero_le_sub_one hlt, Binary64.sub_one_le_one hlt (Binary64.add_units_le_two hc.1 hc.2 hs.1 hs.2)⟩
  | false =>
    rw [clockAdvance_of_not_lt hlt]
    exact ⟨h0, Binary64.le_one_of_not_lt h0 hlt⟩

/-- What the frame scheduler keeps of its accumulator: not negative, and at most 1 where the remainder is dropped (44_clock_step
R331). -/
def FrameRange (rem : FrameRemainder) (v : Binary64) : Prop :=
  Binary64.le Binary64.zero v = true ∧ (rem = .drop → Binary64.le v (binary64.int 1) = true)

theorem frameAdvance_range {rem : FrameRemainder} {cycle fs : Binary64} (hc : FrameRange rem cycle)
    (hs : Binary64.le Binary64.zero fs = true) : FrameRange rem (frameAdvance binary64 rem cycle fs).1 := by
  have h0 : Binary64.le Binary64.zero (Binary64.add cycle fs) = true := Binary64.zero_le_add hc.1 hs
  cases hlt : binary64.lt (binary64.int 1) (binary64.add cycle fs) with
  | true =>
    cases rem with
    | drop =>
      rw [frameAdvance_drop_of_lt hlt]
      exact ⟨inUnit_int_zero.1, fun _ => inUnit_int_zero.2⟩
    | keep =>
      rw [frameAdvance_keep_of_lt hlt]
      exact ⟨Binary64.zero_le_sub_one hlt, fun h => by cases h⟩
  | false =>
    rw [frameAdvance_of_not_lt hlt]
    exact ⟨h0, fun _ => Binary64.le_one_of_not_lt h0 hlt⟩

/-- An event clears the accumulator where the remainder is dropped (44_clock_step R325). -/
theorem frameAdvance_event_clears {α : Type} {A : Arith α} {rem : FrameRemainder} {cycle fs : α}
    (h : (frameAdvance A rem cycle fs).2 = true) (hrem : rem = .drop) : (frameAdvance A rem cycle fs).1 = A.int 0 := by
  subst hrem
  cases hlt : A.lt (A.int 1) (A.add cycle fs) with
  | true => rw [frameAdvance_drop_of_lt hlt]
  | false =>
    rw [frameAdvance_of_not_lt hlt] at h
    cases h

/-! ### The filters -/

/-- Writing a block within the first copy keeps every sample stored twice (46_fir R385, R386). -/
theorem firWrite_mirror {α : Type} {len : Nat} {vs : List α} :
    ∀ {p : Nat} {buf : List α}, p + vs.length ≤ len → buf.length = 2 * len →
      (∀ q, q < len → buf[q]? = buf[q + len]?) →
      ∀ q, q < len → (firWrite len p vs buf)[q]? = (firWrite len p vs buf)[q + len]? := by
  induction vs with
  | nil => intro p buf _ _ hm; exact hm
  | cons v vs ih =>
    intro p buf hp hl hm
    rw [List.length_cons] at hp
    refine ih (by omega) (by simpa using hl) fun q hq => ?_
    obtain rfl | hne := eq_or_ne p q
    · rw [List.getElem?_set_ne (by omega), List.getElem?_set_self (by omega), List.getElem?_set_self (by simp; omega)]
    · rw [List.getElem?_set_ne (by omega), List.getElem?_set_ne hne, List.getElem?_set_ne (by omega),
        List.getElem?_set_ne (by omega), hm q hq]

theorem FirValid.firStep {c : Config} {f : Fir Binary64} (h : FirValid c f) (ht : 1 ≤ c.taps) {xs : List Binary64}
    (hx : xs.length = c.m) : FirValid c (firStep binary64 c.taps c.m c.h f xs).1 where
  size := (firStep_length ..).trans h.size
  idx := firStep_idx_lt binary64 ht ..
  mirror := by
    have hblock : (f.idx + 1) * c.m ≤ c.taps * c.m := Nat.mul_le_mul_right _ h.idx
    rw [Nat.succ_mul] at hblock
    exact firWrite_mirror (by rwa [hx]) h.size h.mirror

theorem BiasValid.biasStep {c : Config} {b : Bias Binary64} (h : BiasValid c b) (hn : 1 ≤ c.biasN) (v : Binary64) :
    BiasValid c (biasStep binary64 c.biasN c.biasAtten b v).1 where
  size := (biasStep_length ..).trans h.size
  idx := biasStep_idx_lt binary64 hn ..

/-! ### What a command can do -/

/-- What a command can do: store a byte, answer a read, refuse, hand control to the host's frame routine, or complete the STEP. -/
theorem exec_cases {i : Instr} {s t : State} (h : exec i s = .next t) :
    (∃ a d, t = respond .nothing (writeReg a d s)) ∨ (∃ v, t = respond (.byte v) s) ∨ (∃ r, t = refuse r s) ∨
    (s.inFrameRoutine = false ∧ (stepBegin s).2 = true ∧ s.frame.routine = .host ∧ t = frameEnter (stepBegin s).1) ∨
    (s.inFrameRoutine = false ∧ t = stepFinish (stepBegin s).1) := by
  cases i with
  | rd a =>
    obtain ha | ha := lt_or_ge a.toNat 14
    · cases (execRd_of_lt ha s).symm.trans h
      exact .inr (.inl ⟨_, rfl⟩)
    · cases (execRd_of_ge ha s).symm.trans h
      exact .inr (.inr (.inl ⟨_, rfl⟩))
  | step =>
    obtain ⟨-, he⟩ | ⟨hin, hev, hr, he⟩ | ⟨hin, -, he⟩ := execStep_cases s <;> cases he.symm.trans h
    · exact .inr (.inr (.inl ⟨_, rfl⟩))
    · exact .inr (.inr (.inr (.inl ⟨hin, hev, hr, rfl⟩)))
    · exact .inr (.inr (.inr (.inr ⟨hin, rfl⟩)))
  | _ =>
    cases h
    exact .inl ⟨_, _, rfl⟩

/-! ### The parts of STEP -/

@[simp] theorem stepFinish_refused (s : State) : (stepFinish s).refused = s.refused := (oversample_frame s.cfg.m s).refused

@[simp] theorem stepBegin_refused (s : State) : (stepBegin s).1.refused = s.refused := rfl

@[simp] theorem stepFinish_cfg (s : State) : (stepFinish s).cfg = s.cfg := (oversample_frame s.cfg.m s).cfg

@[simp] theorem stepBegin_cfg (s : State) : (stepBegin s).1.cfg = s.cfg := rfl

/-- No command changes the configuration (46_fir R384). -/
theorem exec_keeps_cfg {i : Instr} {s t : State} (h : exec i s = .next t) : t.cfg = s.cfg := by
  obtain ⟨a, d, rfl⟩ | ⟨v, rfl⟩ | ⟨r, rfl⟩ | ⟨-, -, -, rfl⟩ | ⟨-, rfl⟩ := exec_cases h <;>
    simp only [respond_cfg, writeReg_cfg, refuse_cfg, frameEnter_cfg, stepBegin_cfg, stepFinish_cfg]

/-! ### The refusal mark -/

theorem exec_keeps_refused {i : Instr} {s t : State} (h : exec i s = .next t) (hs : s.refused = true) : t.refused = true := by
  obtain ⟨a, d, rfl⟩ | ⟨v, rfl⟩ | ⟨r, rfl⟩ | ⟨-, -, -, rfl⟩ | ⟨-, rfl⟩ := exec_cases h <;> simp [hs]

/-- Settles O58: every move but a construction sets the mark or passes it on. -/
theorem refusalMarkIsNeverCleared : Obligations.RefusalMarkIsNeverCleared := by
  intro s t hs h hno
  obtain ⟨-, rfl⟩ | ⟨w, rest, i, -, -, he⟩ | ⟨w, rest, e, -, -, rfl⟩ | ⟨rest, -, -, rfl⟩ | ⟨c, r, rest, u, hi, -⟩ := step_cases h
  · exact hs
  · exact exec_keeps_refused he hs
  · rfl
  · simpa using hs
  · exact absurd hi (hno c r rest)

/-! ### The invariant: one tick, one iteration, the loop -/

/-- What no chip tick writes is as it was (44_clock_step R327); the rest is asked for. -/
theorem Inv.of_tickFrame {s t : State} (h : Inv s) (hf : TickFrame s t)
    (tone : ∀ i : Fin 3, 1 ≤ t.tone[i].period ∧ t.tone[i].period ≤ 4095 ∧ t.tone[i].counter < t.tone[i].period)
    (noise : 1 ≤ t.noise.period ∧ t.noise.period ≤ 510 ∧ t.noise.counter < t.noise.period) (lfsr : t.noise.lfsr ≠ 0)
    (env : 1 ≤ t.env.period ∧ t.env.period ≤ 65535 ∧ t.env.counter < t.env.period) (clockCycle : InUnit t.clock.cycle) :
    Inv t where
  cfg := hf.cfg ▸ h.cfg
  tone := tone
  noise := noise
  lfsr := lfsr
  env := env
  firLeft := by rw [hf.cfg, hf.fir]; exact h.firLeft
  firRight := by rw [hf.cfg, hf.fir]; exact h.firRight
  biasLeft := by rw [hf.cfg, hf.bias]; exact h.biasLeft
  biasRight := by rw [hf.cfg, hf.bias]; exact h.biasRight
  clockStep := by rw [hf.clockStep, hf.cfg]; exact h.clockStep
  clockCycle := clockCycle
  frameCycle := by rw [hf.frame, hf.cfg]; exact h.frameCycle
  routine := by rw [hf.inFrameRoutine, hf.frame, hf.cfg]; exact h.routine

theorem Inv.chipTick {s : State} (h : Inv s) : Inv (chipTick s) := by
  refine h.of_tickFrame (chipTick_frame s) (fun i => ?_) ?_ ?_ ?_ ?_
  · rw [chipTick_tone, mapRegisters_tone]
    exact toneTick_mapTone_range ..
  · rw [chipTick_noise, mapRegisters_noise]
    exact noiseTick_mapNoise_range ..
  · rw [chipTick_noise, mapRegisters_noise]
    have hn : (mapNoise (clampFile s.cfg s.x) s.noise).lfsr ≠ 0 := by
      rw [mapNoise_lfsr]
      exact h.lfsr
    exact noiseTick_lfsr_ne_zero _ hn
  · rw [chipTick_env, mapRegisters_env]
    exact envTick_mapEnv_range ..
  · rw [chipTick_clock]
    exact h.clockCycle

theorem Inv.clockIteration {s : State} (h : Inv s) : Inv (clockIteration s) := by
  have hstep : InUnit s.clock.step := h.clockStep ▸ h.cfg.clock
  have h1 : Inv { s with clock := { s.clock with cycle := (clockAdvance binary64 s.clock.cycle s.clock.step).1 } } :=
    { h with clockCycle := clockAdvance_inUnit h.clockCycle hstep }
  obtain ⟨-, he⟩ | ⟨-, he⟩ := clockIteration_cases s <;> rw [he]
  · exact h1
  · exact h1.chipTick

theorem Inv.oversample {s : State} (h : Inv s) (k : Nat) : Inv (oversample k s).1 :=
  oversample_induction (fun _ h => h.clockIteration) k s h

/-! ### The invariant: the parts of STEP -/

theorem Inv.stepBegin {s : State} (h : Inv s) (hin : s.inFrameRoutine = false) : Inv (stepBegin s).1 :=
  { h with
    clockStep := rfl
    frameCycle := frameAdvance_range h.frameCycle h.cfg.frame
    routine := fun h => by cases hin.symm.trans h }

theorem Inv.stepFinish {s : State} (h : Inv s) : Inv (stepFinish s) := by
  have ho := h.oversample s.cfg.m
  have hcfg : (Machine.oversample s.cfg.m s).1.cfg = s.cfg := (oversample_frame s.cfg.m s).cfg
  have hl := hcfg ▸ ho.firLeft
  have hr := hcfg ▸ ho.firRight
  have hbl := hcfg ▸ ho.biasLeft
  have hbr := hcfg ▸ ho.biasRight
  exact
    { ho with
      firLeft := hcfg ▸ hl.firStep h.cfg.taps (by simp)
      firRight := hcfg ▸ hr.firStep h.cfg.taps (by simp)
      biasLeft := hcfg ▸ hbl.biasStep h.cfg.biasN _
      biasRight := hcfg ▸ hbr.biasStep h.cfg.biasN _ }

theorem Inv.frameEnter {s : State} (h : Inv s) (hr : s.frame.routine = .host)
    (hc : s.cfg.frameRemainder = .drop → s.frame.cycle = binary64.int 0) : Inv (frameEnter s) :=
  { h with routine := fun _ => ⟨hr, hc⟩ }

theorem Inv.withInputs {s : State} (h : Inv s) (rest : List HostEvent) : Inv { s with inputs := rest } := { h with }

theorem Inv.exec {i : Instr} {s t : State} (h : Inv s) (he : exec i s = .next t) : Inv t := by
  obtain ⟨a, d, rfl⟩ | ⟨v, rfl⟩ | ⟨r, rfl⟩ | ⟨hin, hev, hr, rfl⟩ | ⟨hin, rfl⟩ := exec_cases he
  · exact { h with }
  · exact { h with }
  · exact { h with }
  · exact (h.stepBegin hin).frameEnter hr (frameAdvance_event_clears hev)
  · exact (h.stepBegin hin).stepFinish

/-! ### The invariant: construction -/

theorem checks_pass {c : RawConfig} (h : firstConfigError c = none) (e : ConfigError) : checkFails c e = false := by
  have := List.find?_eq_none.1 h e (by cases e <;> decide)
  simpa using this

/-- Check 1: the numbers of an accepted record are finite (60_exceptions R442). -/
theorem isFinite_of_mem_numFields {c : RawConfig} (h : firstConfigError c = none) {v : Binary64} (hv : v ∈ numFields c) :
    v.isFinite = true := by
  have := List.any_eq_false.1 (checks_pass h .nonfinite) v hv
  simpa using this

/-- Check 8, or the length of FIR_DESIGN's table (46_fir R381, R382). -/
theorem buildKernel_length {c : RawConfig} (h : firstConfigError c = none) : (buildKernel c).length = c.taps * c.m := by
  have hk := checks_pass h .kernelLength
  unfold buildKernel
  cases hc : c.kernel with
  | some k => simpa [checkFails, hc] using hk
  | none => simp [firDesign]

/-- Check 5: the output rate of an accepted record is positive (60_exceptions R442). -/
theorem outRate_pos {c : RawConfig} (h : firstConfigError c = none) : Binary64.lt Binary64.zero c.outRate = true := by
  have hf := isFinite_of_mem_numFields h (v := c.outRate) (by simp [numFields])
  have hle : c.outRate.le Binary64.zero = false := (Bool.or_eq_false_iff.1 (checks_pass h .rateNonpositive)).1
  exact Binary64.lt_of_not_le (Binary64.not_special_of_isFinite hf).1 Binary64.zero_isNaN hle

theorem outRate_units_pos {c : RawConfig} (h : firstConfigError c = none) : 0 < c.outRate.units := by
  have := (Binary64.lt_eq_true_iff.1 (outRate_pos h)).2.2
  rwa [Binary64.zero_units] at this

/-- Check 6: no frequency of an accepted record is negative (60_exceptions R442). -/
theorem freqs_nonneg {c : RawConfig} (h : firstConfigError c = none) : 0 ≤ c.chipFreq.units ∧ 0 ≤ c.frameFreq.units := by
  have nonneg {v : Binary64} (hv : v ∈ numFields c) (hlt : v.lt Binary64.zero = false) : 0 ≤ v.units :=
    (Binary64.zero_le_iff.1 (Binary64.le_of_not_lt
      (Binary64.not_special_of_isFinite (isFinite_of_mem_numFields h hv)).1 Binary64.zero_isNaN hlt)).2
  have hs := Bool.or_eq_false_iff.1 (checks_pass h .negativeFreq)
  exact ⟨nonneg (by simp [numFields]) hs.1, nonneg (by simp [numFields]) hs.2⟩

/-- Check 7 and the signs of its operands: the clock increment is in `[0, 1]` (44_clock_step R322). -/
theorem clockStep_inUnit {c : RawConfig} (h : firstConfigError c = none) :
    InUnit (clockStepOf binary64 c.chipFreq c.outRate c.m) := by
  have h1 : Binary64.le (clockStepOf binary64 c.chipFreq c.outRate c.m) (binary64.int 1) = true := by
    simpa [checkFails] using checks_pass h .clockTooFast
  have hrate := Binary64.sign_of_units_pos (outRate_units_pos h)
  have hmul : 0 ≤ (Binary64.mul c.chipFreq (Binary64.ratio 1 8)).units :=
    Binary64.mul_units_nonneg (freqs_nonneg h).1 (by rw [Binary64.ratio_sign]; rfl)
  have hm : (Binary64.ratio c.m 1).sign = false := by
    rw [Binary64.ratio_sign]
    simp
  refine ⟨Binary64.zero_le_iff.2 ⟨(Binary64.le_one_iff.1 h1).1, ?_⟩, h1⟩
  rw [clockStepOf_binary64]
  exact Binary64.div_units_nonneg (Binary64.div_units_nonneg hmul hrate) hm

/-- The frame increment is a number that is not negative (44_clock_step R323). -/
theorem frameStep_nonneg {c : RawConfig} (h : firstConfigError c = none) :
    Binary64.le Binary64.zero (frameStepOf binary64 c.frameFreq c.outRate) = true := by
  have hff := isFinite_of_mem_numFields h (v := c.frameFreq) (by simp [numFields])
  have hrf := isFinite_of_mem_numFields h (v := c.outRate) (by simp [numFields])
  have hpos := outRate_units_pos h
  have hsign := Binary64.sign_of_units_pos hpos
  have hmag : c.outRate.mag ≠ 0 := by
    rw [Binary64.units_of_sign hsign] at hpos
    omega
  rw [frameStepOf_binary64]
  refine Binary64.zero_le_iff.2 ⟨?_, Binary64.div_units_nonneg (freqs_nonneg h).2 hsign⟩
  rw [Binary64.div_of_isFinite hff hrf hmag, Binary64.ofMag_isNaN]

/-- What construction checks is what the run-time ranges rest on (60_exceptions R442). -/
theorem configValid_fixConfig {c : RawConfig} (h : firstConfigError c = none) : ConfigValid (fixConfig c) where
  taps := Nat.one_le_iff_ne_zero.2 (of_decide_eq_false (checks_pass h .tapsZero))
  m := Nat.one_le_iff_ne_zero.2 (of_decide_eq_false (checks_pass h .mZero))
  kernel := buildKernel_length h
  biasN := Nat.one_le_iff_ne_zero.2 (of_decide_eq_false (checks_pass h .biasNZero))
  atten := of_decide_eq_false (checks_pass h .attenZero)
  outRate := outRate_pos h
  clock := clockStep_inUnit h
  frame := frameStep_nonneg h
  dac0 := not_not.1 (of_decide_eq_false (Bool.or_eq_false_iff.1 (checks_pass h .dacZeroEntries)).1)
  dac1 := not_not.1 (of_decide_eq_false (Bool.or_eq_false_iff.1 (checks_pass h .dacZeroEntries)).2)

theorem firValid_replicate {c : Config} (h : 1 ≤ c.taps) (v : Binary64) :
    FirValid c { buf := List.replicate (2 * kernelLength c) v, idx := 0 } where
  size := List.length_replicate
  idx := h
  mirror p hp := by simp only [List.getElem?_replicate]; rw [if_pos (by omega), if_pos (by omega)]

theorem biasValid_replicate {c : Config} (h : 1 ≤ c.biasN) (v : Binary64) :
    BiasValid c { buf := List.replicate c.biasN v, sum := v, idx := 0 } where
  size := List.length_replicate
  idx := h

/-- The state after construction meets the invariant (10_state R70, R80). -/
theorem inv_initial {c : Config} (h : ConfigValid c) (r : Routine) : Inv (State.initial c r) where
  cfg := h
  tone i := by simp [State.initial]
  noise := by simp [State.initial]
  lfsr := by simp [State.initial]
  env := by simp [State.initial]
  firLeft := firValid_replicate h.taps _
  firRight := firValid_replicate h.taps _
  biasLeft := biasValid_replicate h.biasN _
  biasRight := biasValid_replicate h.biasN _
  clockStep := rfl
  clockCycle := inUnit_zero
  frameCycle := ⟨inUnit_zero.1, fun _ => inUnit_zero.2⟩
  routine := fun h => by cases h

/-- Settles O57: a command keeps the invariant, a refusal and the end of the routine too, and a construction establishes it. -/
theorem stepKeepsTheInvariant : Obligations.StepKeepsTheInvariant := by
  intro s t hs h
  obtain ⟨-, rfl⟩ | ⟨w, rest, i, -, -, he⟩ | ⟨w, rest, e, -, -, rfl⟩ | ⟨rest, -, hin, rfl⟩ | ⟨c, r, rest, u, -, hu, rfl⟩ :=
    step_cases h
  · exact hs
  · exact (hs.withInputs rest).exec he
  · exact { hs with }
  · exact Inv.stepFinish { hs with routine := fun h => by cases h }
  · obtain ⟨hc, rfl⟩ := construct_ok hu
    exact { inv_initial (configValid_fixConfig hc) r with }

/-! ### The register bits no rule uses -/

/-- Two states that differ in the unused register bits only (10_state R57, R58). -/
def DifferInUnusedBits (s u : State) : Prop := ∃ y, SameUsedBits s.cfg s.x y ∧ u = { s with x := y }

/-- A register's used bits are among those its mask keeps (40_register_interface R161). -/
theorem regMask_and_usedBits (c : Config) (a : Fin 14) :
    regMask c a &&& (usedBits c).getD a.val 0 = (usedBits c).getD a.val 0 := by
  fin_cases a <;> simp [regMask, usedBits]

/-- Clamping changes no used bit (40_register_interface R178). -/
theorem clampFile_and_usedBits (c : Config) (x : Vector Byte 14) (a : Fin 14) :
    (clampFile c x)[a] &&& (usedBits c).getD a.val 0 = x[a] &&& (usedBits c).getD a.val 0 := by
  rw [clampFile_getElem, BitVec.and_assoc, regMask_and_usedBits]

section
variable {c : Config} {x y : Vector Byte 14} (h : SameUsedBits c x y)
include h

theorem SameUsedBits.clampFile : SameUsedBits c (clampFile c x) (clampFile c y) := fun a => by
  rw [clampFile_and_usedBits, clampFile_and_usedBits, h a]

/-- Where every bit that the mask keeps is used, the clamped registers agree. -/
theorem SameUsedBits.clampFile_getElem {a : Fin 14} (ha : (usedBits c).getD a.val 0 = regMask c a) :
    (Machine.clampFile c x)[a] = (Machine.clampFile c y)[a] := by
  have := h a
  rwa [ha, ← Machine.clampFile_getElem, ← Machine.clampFile_getElem] at this

theorem SameUsedBits.mapTone (i : Fin 3) (t : Tone) :
    mapTone (Machine.clampFile c x) i t = mapTone (Machine.clampFile c y) i t := by
  have hf := h.clampFile_getElem (a := fineAddr i) (by fin_cases i <;> rfl)
  have hc := h.clampFile_getElem (a := coarseAddr i) (by fin_cases i <;> rfl)
  simp only [Machine.mapTone, tonePeriod, hf, hc]

theorem SameUsedBits.mapNoise (n : Noise) : mapNoise (Machine.clampFile c x) n = mapNoise (Machine.clampFile c y) n := by
  have h6 : (Machine.clampFile c x)[6] = (Machine.clampFile c y)[6] := h.clampFile_getElem (a := 6) rfl
  simp only [Machine.mapNoise, noisePeriod, h6]

theorem SameUsedBits.mapEnv (e : Env) : mapEnv c (Machine.clampFile c x) e = mapEnv c (Machine.clampFile c y) e := by
  have h11 : (Machine.clampFile c x)[11] = (Machine.clampFile c y)[11] := h.clampFile_getElem (a := 11) rfl
  have h12 : (Machine.clampFile c x)[12] = (Machine.clampFile c y)[12] := h.clampFile_getElem (a := 12) rfl
  have h13 : (Machine.clampFile c x)[13] = (Machine.clampFile c y)[13] := h.clampFile_getElem (a := 13) rfl
  simp only [Machine.mapEnv, envPeriod, h11, h12, h13]

end

/-- The mixer flags read bits 0 to 5 only (40_register_interface R183). -/
theorem toneOffFlag_and (m : Byte) (i : Fin 3) : toneOffFlag (m &&& 0x3F) i = toneOffFlag m i := by
  have : (0x3F : Byte) &&& (0x01#8 <<< i.val) = 0x01#8 <<< i.val := by revert i; decide
  rw [toneOffFlag, BitVec.and_assoc, this, toneOffFlag]

theorem noiseOffFlag_and (m : Byte) (i : Fin 3) : noiseOffFlag (m &&& 0x3F) i = noiseOffFlag m i := by
  have : (0x3F : Byte) &&& (0x08#8 <<< i.val) = 0x08#8 <<< i.val := by revert i; decide
  rw [noiseOffFlag, BitVec.and_assoc, this, noiseOffFlag]

/-- A volume register is read in bits 0 to 4 only (40_register_interface R182, R184). -/
theorem volumeField_and (v : Byte) : volumeField (v &&& 0x1F) = volumeField v := by
  rw [volumeField, BitVec.and_assoc]
  rfl

theorem envSelectFlag_and (v : Byte) : envSelectFlag (v &&& 0x1F) = envSelectFlag v := by
  rw [envSelectFlag, BitVec.and_assoc]
  rfl

theorem SameUsedBits.mapChan {c : Config} {x y : Vector Byte 14} (h : SameUsedBits c x y) (i : Fin 3) :
    mapChan x i = mapChan y i := by
  have h7 : x[7] &&& (0x3F : Byte) = y[7] &&& 0x3F := h 7
  have hv : x[volumeAddr i] &&& (0x1F : Byte) = y[volumeAddr i] &&& 0x1F := by
    fin_cases i
    · exact h 8
    · exact h 9
    · exact h 10
  rw [Machine.mapChan, ← volumeField_and, ← toneOffFlag_and, ← noiseOffFlag_and, ← envSelectFlag_and, h7, hv,
    volumeField_and, toneOffFlag_and, noiseOffFlag_and, envSelectFlag_and, Machine.mapChan]

/-- `map()` derives the same fields from files that agree on the used bits. -/
theorem mapRegisters_of_sameUsedBits {s : State} {y : Vector Byte 14} (h : SameUsedBits s.cfg s.x y) :
    mapRegisters { s with x := y } = { mapRegisters s with x := clampFile s.cfg y } := by
  simp only [mapRegisters, h.mapTone, h.mapNoise, h.mapEnv, h.clampFile.mapChan]

/-- The mixer reads no register. -/
theorem mixerTick_withFile (s : State) (y : Vector Byte 14) :
    mixerTick { s with x := y } = ({ (mixerTick s).1 with x := y }, (mixerTick s).2) := rfl

namespace DifferInUnusedBits

variable {s u : State}

theorem frameEnter (h : DifferInUnusedBits s u) : DifferInUnusedBits (frameEnter s) (Machine.frameEnter u) := by
  obtain ⟨y, hy, rfl⟩ := h
  exact ⟨y, hy, rfl⟩

theorem refuse (h : DifferInUnusedBits s u) (r : RefuseReason) :
    DifferInUnusedBits (refuse r s) (Machine.refuse r u) := by
  obtain ⟨y, hy, rfl⟩ := h
  exact ⟨y, hy, rfl⟩

theorem inFrameRoutine_eq (h : DifferInUnusedBits s u) : u.inFrameRoutine = s.inFrameRoutine := by
  obtain ⟨y, -, rfl⟩ := h
  rfl

theorem cfg_eq (h : DifferInUnusedBits s u) : u.cfg = s.cfg := by
  obtain ⟨y, -, rfl⟩ := h
  rfl

theorem frame_eq (h : DifferInUnusedBits s u) : u.frame = s.frame := by
  obtain ⟨y, -, rfl⟩ := h
  rfl

theorem withClock (h : DifferInUnusedBits s u) (k : Clock) :
    DifferInUnusedBits { s with clock := k } { u with clock := k } := by
  obtain ⟨y, hy, rfl⟩ := h
  exact ⟨y, hy, rfl⟩

theorem chipTick (h : DifferInUnusedBits s u) : DifferInUnusedBits (chipTick s) (Machine.chipTick u) := by
  obtain ⟨y, hy, rfl⟩ := h
  refine ⟨clampFile s.cfg y, ?_, ?_⟩
  · rw [(chipTick_frame s).cfg, chipTick_x, mapRegisters_x]
    exact hy.clampFile
  · simp only [Machine.chipTick, mapRegisters_of_sameUsedBits hy, mixerTick_withFile]

theorem clockIteration (h : DifferInUnusedBits s u) :
    DifferInUnusedBits (clockIteration s) (Machine.clockIteration u) := by
  obtain ⟨y, hy, rfl⟩ := h
  have h1 := withClock ⟨y, hy, rfl⟩ { s.clock with cycle := (clockAdvance binary64 s.clock.cycle s.clock.step).1 }
  unfold Machine.clockIteration
  dsimp only
  split
  · exact h1.chipTick
  · exact h1

/-- The sampled pairs are the same: no sample reads a register. -/
theorem interpSample_eq (h : DifferInUnusedBits s u) : interpSample u = interpSample s := by
  obtain ⟨y, -, rfl⟩ := h
  rfl

theorem oversample (k : Nat) :
    ∀ {s u : State}, DifferInUnusedBits s u →
      DifferInUnusedBits (oversample k s).1 (Machine.oversample k u).1 ∧
        (Machine.oversample k u).2 = (Machine.oversample k s).2 := by
  induction k with
  | zero => exact fun h => ⟨h, rfl⟩
  | succ k ih =>
    intro s u h
    obtain ⟨hs, ho⟩ := ih h.clockIteration
    exact ⟨hs, congrArg₂ List.cons h.clockIteration.interpSample_eq ho⟩

theorem stepBegin (h : DifferInUnusedBits s u) :
    DifferInUnusedBits (stepBegin s).1 (Machine.stepBegin u).1 ∧ (Machine.stepBegin u).2 = (Machine.stepBegin s).2 := by
  obtain ⟨y, hy, rfl⟩ := h
  exact ⟨⟨y, hy, rfl⟩, rfl⟩

theorem stepFinish (h : DifferInUnusedBits s u) : DifferInUnusedBits (stepFinish s) (Machine.stepFinish u) := by
  obtain ⟨⟨z, hz, hu⟩, ho⟩ := oversample s.cfg.m h
  unfold Machine.stepFinish
  dsimp only
  rw [h.cfg_eq, ho, hu]
  exact ⟨z, hz, rfl⟩

theorem stepRun (h : DifferInUnusedBits s u) : DifferInUnusedBits (stepRun s) (Machine.stepRun u) := by
  obtain ⟨hb, hev⟩ := h.stepBegin
  have hr : (Machine.stepBegin u).1.frame.routine = (Machine.stepBegin s).1.frame.routine := hb.frame_eq ▸ rfl
  simp only [Machine.stepRun, hev, frameEvent, hr]
  split
  · split
    · exact hb.stepFinish
    · exact hb.frameEnter
  · exact hb.stepFinish

/-- Both states take the STEP, and their next states differ in unused bits only. -/
theorem exec_step (h : DifferInUnusedBits s u) :
    ∃ t v, exec .step s = .next t ∧ exec .step u = .next v ∧ DifferInUnusedBits t v := by
  refine ⟨_, _, rfl, rfl, ?_⟩
  rw [h.inFrameRoutine_eq]
  split
  · exact h.refuse _
  · exact h.stepRun

end DifferInUnusedBits

/-- Settles O42: each part of a STEP keeps the relation of two states that differ in unused bits only. -/
theorem unusedBitsHaveNoEffect : Obligations.UnusedBitsHaveNoEffect := by
  intro s y h
  have h0 : DifferInUnusedBits s { s with x := y } := ⟨y, h, rfl⟩
  obtain ⟨t, u, ht, hu, z, hz, rfl⟩ := h0.exec_step
  exact ⟨t, _, ht, hu, rfl, exec_keeps_cfg ht ▸ hz⟩

end Sys2Proof.Machine

/-! SUPPORT. Register writes (20_memory R108): what one write command does, what two to one register do, and the `map()` that finds
the stored envelope shape. -/

namespace Sys2Proof.Machine

/-! ### Write commands -/

/-- Each of the fourteen write commands stores its byte and answers nothing (40_register_interface R160). -/
theorem exec_writeInstr (a : Fin 14) (d : Byte) (s : State) : exec (writeInstr a d) s = .next (afterWrite a d s) := by
  fin_cases a <;> rfl

/-- A command list runs on from the state its first command answers. -/
theorem execAll_cons_of_next {i : Instr} {s t : State} (h : exec i s = .next t) (is : List Instr) :
    execAll (i :: is) s = execAll is t := by
  simp only [execAll, h]

theorem execAll_write (a : Fin 14) (d : Byte) (s : State) : execAll [writeInstr a d] s = .next (afterWrite a d s) :=
  execAll_cons_of_next (exec_writeInstr a d s) []

/-- The later of two writes to one register is the only one that shows. -/
theorem afterWrite_afterWrite (a : Fin 14) (d d' : Byte) (s : State) :
    afterWrite a d (afterWrite a d' s) = afterWrite a d s := by
  simp only [afterWrite, Vector.set_set]

/-- Writing the byte a register holds changes the answer only. -/
theorem afterWrite_getElem_self (a : Fin 14) (s : State) : afterWrite a s.x[a] s = { s with response := .nothing } := by
  simp [afterWrite]

/-- A write that another one to the same register overtakes leaves no trace (20_memory R108). -/
theorem execAll_write_write (a : Fin 14) (d d' : Byte) (s : State) :
    execAll [writeInstr a d', writeInstr a d] s = .next (afterWrite a d s) := by
  rw [execAll_cons_of_next (exec_writeInstr a d' s), execAll_write, afterWrite_afterWrite]

/-! ### The stored envelope shape -/

/-- The shape is the low four bits of its register (10_state R59). -/
theorem shapeField_and_val (d : Byte) : (shapeField (d &&& 0x0F)).val = d.toNat % 16 := by
  have h : (d &&& 0x0F).toNat = d.toNat % 16 := Nat.and_two_pow_sub_one_eq_mod d.toNat 4
  rw [shapeField, h]
  exact Nat.mod_mod _ _

/-- ENV_CHANGE does nothing on the stored shape (42_envelope R259). -/
theorem envChange_of_shape_eq {e : Env} (h : e.shape = e.store) : envChange e = e := if_neg (not_not.2 h)

/-- Where the shape register holds the stored shape, `map()` derives the period and classifies, and restarts nothing. -/
theorem mapEnv_of_shape_eq {c : Config} {x : Vector Byte 14} {e : Env} (h : shapeField x[13] = e.store) :
    mapEnv c x e = envClassifyRow c.envClass[e.store] e.store { e with period := envPeriod x } := by
  simp only [mapEnv, h]
  exact envChange_of_shape_eq rfl

/-- The envelope after a write of the stored shape and the next `map()` (42_envelope R252, R259). -/
theorem mapAfter_shape_env {d : Byte} {s : State} (h : d.toNat % 16 = s.env.store.val) :
    (mapAfter 13 d s).env =
      envClassifyRow s.cfg.envClass[s.env.store] s.env.store
        { s.env with period := envPeriod (clampFile s.cfg (afterWrite 13 d s).x) } := by
  have hx : (clampFile s.cfg (afterWrite 13 d s).x)[13] = d &&& 0x0F := by simp [clampFile, afterWrite, regMask]
  have hshape : shapeField (clampFile s.cfg (afterWrite 13 d s).x)[13] = s.env.store :=
    Fin.ext (by rw [hx, shapeField_and_val, h])
  rw [mapAfter, mapRegisters_env]
  exact mapEnv_of_shape_eq hshape

/-- Settles O15: of two writes to one register only the later shows, and a `map()` that finds the stored shape restarts nothing. -/
theorem repeatedWritesLeaveNoTrace : Obligations.RepeatedWritesLeaveNoTrace := by
  refine fun s a d d' => ⟨?_, ?_, ?_, fun hd => ?_⟩
  · rw [execAll_write_write, execAll_write]
  · rw [execAll_write_write, execAll_write]
  · calc execAll [writeInstr 13 d', writeInstr 13 s.x[13]] s
        = .next (afterWrite 13 s.x[13] s) := execAll_write_write 13 s.x[13] d' s
      _ = .next { s with response := .nothing } := congrArg _ (afterWrite_getElem_self 13 s)
  · rw [mapAfter_shape_env hd]
    exact ⟨rfl, rfl, rfl⟩

end Sys2Proof.Machine

/-! SUPPORT. Command words (30_encoding): a word as its three fields, what the decoder can answer, and the rows of the opcode map. -/

namespace Sys2Proof.Machine

/-! ### The fields of a word -/

/-- The bits of a word, field by field (30_encoding R130). -/
theorem packWord_getLsbD (c a : BitVec 4) (d : Byte) (k : Nat) :
    (packWord c a d).getLsbD k =
      if k < 8 then d.getLsbD k else if k < 12 then a.getLsbD (k - 8) else c.getLsbD (k - 12) := by
  unfold packWord
  simp only [BitVec.getLsbD_append, Nat.sub_sub, show k - 8 < 4 ↔ k < 12 by omega]

@[simp] theorem clsField_packWord (c a : BitVec 4) (d : Byte) : clsField (packWord c a d) = c := by
  refine BitVec.eq_of_getLsbD_eq fun i hi => ?_
  simp [clsField, packWord_getLsbD, hi, show ¬12 + i < 8 by omega]

@[simp] theorem addrField_packWord (c a : BitVec 4) (d : Byte) : addrField (packWord c a d) = a := by
  refine BitVec.eq_of_getLsbD_eq fun i hi => ?_
  simp [addrField, packWord_getLsbD, hi, show 8 + i < 12 by omega]

@[simp] theorem dataField_packWord (c a : BitVec 4) (d : Byte) : dataField (packWord c a d) = d := by
  refine BitVec.eq_of_getLsbD_eq fun i hi => ?_
  simp [dataField, packWord_getLsbD, hi]

/-- A word is its three fields (30_encoding R130). -/
theorem packWord_fields (w : CmdWord) : packWord (clsField w) (addrField w) (dataField w) = w := by
  refine BitVec.eq_of_getLsbD_eq fun k hk => ?_
  rw [packWord_getLsbD]
  split_ifs with h8 h12
  · simp [dataField, h8]
  · simp [addrField, show k - 8 < 4 by omega, show 8 + (k - 8) = k by omega]
  · simp [clsField, show k - 12 < 4 by omega, show 12 + (k - 12) = k by omega]

/-- A statement about every word is one about the words of all fields. -/
theorem forall_packWord {P : CmdWord → Prop} (h : ∀ c a d, P (packWord c a d)) (w : CmdWord) : P w :=
  packWord_fields w ▸ h _ _ _

theorem packWord_inj {c c' a a' : BitVec 4} {d d' : Byte} :
    packWord c a d = packWord c' a' d' ↔ c = c' ∧ a = a' ∧ d = d' := by
  refine ⟨fun h => ⟨?_, ?_, ?_⟩, fun ⟨hc, ha, hd⟩ => by rw [hc, ha, hd]⟩
  · simpa using congrArg clsField h
  · simpa using congrArg addrField h
  · simpa using congrArg dataField h

theorem packWord_and (c a c' a' : BitVec 4) (d d' : Byte) :
    packWord c a d &&& packWord c' a' d' = packWord (c &&& c') (a &&& a') (d &&& d') := by
  refine BitVec.eq_of_getLsbD_eq fun k hk => ?_
  simp only [BitVec.getLsbD_and, packWord_getLsbD]
  split_ifs <;> rfl

/-- The fields of a word stand at the bits 12, 8 and 0 (30_encoding R134, R135). -/
theorem packWord_eq_or (c a : BitVec 4) (d : Byte) :
    packWord c a d = (c.zeroExtend 16 <<< 12) ||| (a.zeroExtend 16 <<< 8) ||| d.zeroExtend 16 := by
  refine BitVec.eq_of_getLsbD_eq fun k hk => ?_
  rw [packWord_getLsbD]
  split_ifs with h8 h12
  · simp [h8, hk, show k < 12 by omega]
  · simp [h8, hk, h12, BitVec.getLsbD_of_ge d k (by omega)]
  · simp [h8, hk, h12, BitVec.getLsbD_of_ge d k (by omega), BitVec.getLsbD_of_ge a (k - 8) (by omega)]

/-! ### The encoder -/

theorem encode_writeInstr (k : Fin 14) (d : Byte) : encode (writeInstr k d) = packWord 1 (BitVec.ofNat 4 k) d := by
  fin_cases k <;> rfl

theorem ofNat_reg_injective {k j : Fin 14} (h : BitVec.ofNat 4 k = BitVec.ofNat 4 j) : k = j := by
  have := congrArg BitVec.toNat h
  simp only [BitVec.toNat_ofNat] at this
  omega

/-- Writes of different registers are different commands (30_encoding R134). -/
theorem writeInstr_injective {k j : Fin 14} {d : Byte} (h : writeInstr k d = writeInstr j d) : k = j := by
  have hw := congrArg encode h
  rw [encode_writeInstr, encode_writeInstr, packWord_inj] at hw
  obtain ⟨-, ha, -⟩ := hw
  exact ofNat_reg_injective ha

/-- Settles O1: the encoder packs class, address and data, and these fields stand where the formats write them. -/
theorem commandWordFormats : Obligations.CommandWordFormats := by
  refine ⟨fun a d => ?_, fun _ _ _ h => writeInstr_injective h, fun a => ?_, rfl⟩
  · have ha : (BitVec.ofNat 4 a.val).zeroExtend 16 = BitVec.ofNat 16 a.val := by fin_cases a <;> rfl
    rw [encode_writeInstr, packWord_eq_or, ha]
    rfl
  · rw [encode, packWord_eq_or]
    exact BitVec.or_zero

/-! ### The decoder -/

/-- A word of class 1 is a write (30_encoding R131). -/
theorem decode_class1 (a : RegAddr) (d : Byte) : decode (packWord 1 a d) = decodeWrite a d := by
  simp only [decode, clsField_packWord, addrField_packWord, dataField_packWord]
  rfl

/-- A word of class 2 is a read (30_encoding R131). -/
theorem decode_class2 (a : RegAddr) (d : Byte) : decode (packWord 2 a d) = decodeRead a d := by
  simp only [decode, clsField_packWord, addrField_packWord, dataField_packWord]
  rfl

/-- A word of class 3 is a sample step (30_encoding R131). -/
theorem decode_class3 (a : RegAddr) (d : Byte) : decode (packWord 3 a d) = decodeStep a d := by
  simp only [decode, clsField_packWord, addrField_packWord, dataField_packWord]
  rfl

theorem decode_otherClass {c : BitVec 4} (h : c ≠ 1 ∧ c ≠ 2 ∧ c ≠ 3) (a : RegAddr) (d : Byte) :
    decode (packWord c a d) = .error .reservedClass := by
  obtain ⟨h1, h2, h3⟩ := h
  simp only [decode, clsField_packWord]
  split
  · next e => exact absurd (BitVec.eq_of_toNat_eq e) h1
  · next e => exact absurd (BitVec.eq_of_toNat_eq e) h2
  · next e => exact absurd (BitVec.eq_of_toNat_eq e) h3
  · rfl

theorem decodeWrite_register (k : Fin 14) (d : Byte) : decodeWrite (BitVec.ofNat 4 k) d = .ok (writeInstr k d) := by
  fin_cases k <;> rfl

theorem decodeWrite_reserved {a : RegAddr} (h : a = 14 ∨ a = 15) (d : Byte) :
    decodeWrite a d = .error .reservedAddress := by
  obtain rfl | rfl := h <;> rfl

theorem decodeRead_register {a : RegAddr} (h : a.toNat ≤ 13) : decodeRead a 0 = .ok (.rd a) := by
  simp [decodeRead, Nat.not_lt.2 h]

theorem decodeRead_reserved {a : RegAddr} (h : a = 14 ∨ a = 15) (d : Byte) :
    decodeRead a d = .error .reservedAddress := by
  obtain rfl | rfl := h <;> rfl

theorem decodeRead_withData {a : RegAddr} (ha : a.toNat ≤ 13) {d : Byte} (hd : d ≠ 0) :
    decodeRead a d = .error .readWithData :=
  (if_neg (Nat.not_lt.2 ha)).trans (if_neg hd)

theorem decodeStep_withOperands {a : RegAddr} {d : Byte} (h : ¬(a = 0 ∧ d = 0)) :
    decodeStep a d = .error .stepWithOperands :=
  if_neg h

theorem decode_write (k : Fin 14) (d : Byte) : decode (packWord 1 (BitVec.ofNat 4 k) d) = .ok (writeInstr k d) := by
  rw [decode_class1, decodeWrite_register]

theorem decode_read {a : RegAddr} (h : a.toNat ≤ 13) : decode (packWord 2 a 0) = .ok (.rd a) := by
  rw [decode_class2, decodeRead_register h]

theorem decode_step : decode (packWord 3 0 0) = .ok .step := rfl

/-- An address field names one of the fourteen registers, or is reserved (30_encoding R132, R139). -/
theorem regAddr_cases (a : RegAddr) : (∃ k : Fin 14, a = BitVec.ofNat 4 k ∧ a.toNat ≤ 13) ∨ a = 14 ∨ a = 15 := by
  revert a
  decide

/-- Every word is the word of a write, of a read of an implemented register, or of STEP, and decodes to that command, or it is
reserved and does not decode (30_encoding R134 to R139). -/
theorem decode_cases (w : CmdWord) :
    (∃ (k : Fin 14) (d : Byte), w = packWord 1 (BitVec.ofNat 4 k) d ∧ decode w = .ok (writeInstr k d)) ∨
    (∃ a : RegAddr, a.toNat ≤ 13 ∧ w = packWord 2 a 0 ∧ decode w = .ok (.rd a)) ∨
    (w = packWord 3 0 0 ∧ decode w = .ok .step) ∨
    (Reserved w ∧ ∃ e, decode w = .error e) := by
  revert w
  refine forall_packWord fun c a d => ?_
  simp only [Reserved, clsField_packWord, addrField_packWord, dataField_packWord]
  by_cases hc : c ≠ 1 ∧ c ≠ 2 ∧ c ≠ 3
  · exact .inr (.inr (.inr ⟨.inl hc, _, decode_otherClass hc a d⟩))
  obtain rfl | rfl | rfl : c = 1 ∨ c = 2 ∨ c = 3 := by tauto
  · obtain ⟨k, rfl, -⟩ | ha := regAddr_cases a
    · exact .inl ⟨k, d, rfl, decode_write k d⟩
    · exact .inr (.inr (.inr ⟨.inr (.inl ⟨.inl rfl, ha⟩), _, (decode_class1 a d).trans (decodeWrite_reserved ha d)⟩))
  · obtain ⟨-, -, ha⟩ | ha := regAddr_cases a
    · by_cases hd : d = 0
      · subst hd
        exact .inr (.inl ⟨a, ha, rfl, decode_read ha⟩)
      · exact .inr (.inr (.inr ⟨.inr (.inr (.inl ⟨rfl, hd⟩)), _, (decode_class2 a d).trans (decodeRead_withData ha hd)⟩))
    · exact .inr (.inr (.inr ⟨.inr (.inl ⟨.inr rfl, ha⟩), _, (decode_class2 a d).trans (decodeRead_reserved ha d)⟩))
  · by_cases h : a = 0 ∧ d = 0
    · obtain ⟨rfl, rfl⟩ := h
      exact .inr (.inr (.inl ⟨rfl, decode_step⟩))
    · exact .inr (.inr (.inr ⟨.inr (.inr (.inr ⟨rfl, h⟩)), _, (decode_class3 a d).trans (decodeStep_withOperands h)⟩))

theorem not_reserved_write (k : Fin 14) (d : Byte) : ¬Reserved (packWord 1 (BitVec.ofNat 4 k) d) := by
  have hk : ∀ j : Fin 14, ¬(BitVec.ofNat 4 j = 14 ∨ BitVec.ofNat 4 j = 15) := by decide
  simpa [Reserved] using hk k

theorem not_reserved_read {a : RegAddr} (h : a.toNat ≤ 13) : ¬Reserved (packWord 2 a 0) := by
  have ha : ¬(a = 14 ∨ a = 15) := by rintro (rfl | rfl) <;> contradiction
  simpa [Reserved] using ha

theorem not_reserved_step : ¬Reserved (packWord 3 0 0) := by simp [Reserved]

/-- The reserved words are those that do not decode (30_encoding R139). -/
theorem reserved_iff_decode_error (w : CmdWord) : Reserved w ↔ ∃ e, decode w = .error e := by
  have hok {i : Instr} (h : decode w = .ok i) : ¬∃ e, decode w = .error e := by simp [h]
  obtain ⟨k, d, rfl, hd⟩ | ⟨a, ha, rfl, hd⟩ | ⟨rfl, hd⟩ | ⟨hr, hd⟩ := decode_cases w
  · exact iff_of_false (not_reserved_write k d) (hok hd)
  · exact iff_of_false (not_reserved_read ha) (hok hd)
  · exact iff_of_false not_reserved_step (hok hd)
  · exact iff_of_true hr hd

/-! ### The opcode map -/

/-- The row of the write of register `k` (30_encoding R138). -/
def writeRow (k : Fin 14) : OpcodeRow :=
  ⟨mnemonic (writeInstr k 0), packWord 1 (BitVec.ofNat 4 k) 0, packWord 15 15 0⟩

/-- The row of `RD` (30_encoding R138). -/
def readRow : OpcodeRow := ⟨"RD", packWord 2 0 0, packWord 15 0 255⟩

/-- The row of `STEP` (30_encoding R138). -/
def stepRow : OpcodeRow := ⟨"STEP", packWord 3 0 0, packWord 15 15 255⟩

theorem opcodeMap_eq : opcodeMap = (List.finRange 14).map writeRow ++ [readRow, stepRow] := by decide

theorem mem_opcodeMap_iff {r : OpcodeRow} : r ∈ opcodeMap ↔ (∃ k, r = writeRow k) ∨ r = readRow ∨ r = stepRow := by
  simp [opcodeMap_eq, eq_comm]

/-- The mnemonic of a write does not depend on its data. -/
theorem mnemonic_writeInstr (k : Fin 14) (d : Byte) : mnemonic (writeInstr k d) = (writeRow k).mnemonic := by
  fin_cases k <;> rfl

theorem writeRow_mnemonic_ne (k : Fin 14) : (writeRow k).mnemonic ≠ "RD" := by
  revert k
  decide

/-- Every row but that of `RD` is matched by mask and pattern alone (30_encoding R138). -/
theorem rowMatches_iff_of_ne {r : OpcodeRow} (h : r.mnemonic ≠ "RD") {w : CmdWord} :
    rowMatches r w = true ↔ w &&& r.mask = r.pattern := by
  simp [rowMatches, h]

theorem and_nibbleMask (c : BitVec 4) : c &&& 15#4 = c := BitVec.and_allOnes

theorem and_byteMask (d : Byte) : d &&& 255#8 = d := BitVec.and_allOnes

theorem rowMatches_writeRow_iff (k : Fin 14) (w : CmdWord) :
    rowMatches (writeRow k) w = true ↔ ∃ d, w = packWord 1 (BitVec.ofNat 4 k) d := by
  revert w
  refine forall_packWord fun c a d => ?_
  rw [rowMatches_iff_of_ne (writeRow_mnemonic_ne k)]
  simp [writeRow, packWord_and, packWord_inj, and_nibbleMask]

theorem rowMatches_readRow_iff (w : CmdWord) :
    rowMatches readRow w = true ↔ ∃ a : RegAddr, a.toNat ≤ 13 ∧ w = packWord 2 a 0 := by
  revert w
  refine forall_packWord fun c a d => ?_
  simpa [rowMatches, readRow, packWord_and, packWord_inj, and_nibbleMask, and_byteMask] using and_comm

theorem rowMatches_stepRow_iff (w : CmdWord) : rowMatches stepRow w = true ↔ w = packWord 3 0 0 := by
  revert w
  refine forall_packWord fun c a d => ?_
  rw [rowMatches_iff_of_ne (by decide)]
  simp [stepRow, packWord_and, packWord_inj, and_nibbleMask, and_byteMask]

/-- A word that matches a row decodes to a command of the row's mnemonic (30_encoding R138). -/
theorem decode_of_rowMatches {w : CmdWord} {r : OpcodeRow} (hr : r ∈ opcodeMap) (h : rowMatches r w = true) :
    ∃ i, decode w = .ok i ∧ mnemonic i = r.mnemonic := by
  obtain ⟨k, rfl⟩ | rfl | rfl := mem_opcodeMap_iff.1 hr
  · obtain ⟨d, rfl⟩ := (rowMatches_writeRow_iff k w).1 h
    exact ⟨_, decode_write k d, mnemonic_writeInstr k d⟩
  · obtain ⟨a, ha, rfl⟩ := (rowMatches_readRow_iff w).1 h
    exact ⟨_, decode_read ha, rfl⟩
  · rw [(rowMatches_stepRow_iff w).1 h]
    exact ⟨_, decode_step, rfl⟩

/-- A word that decodes matches the row of its command (30_encoding R138). -/
theorem rowMatches_of_decode {w : CmdWord} {i : Instr} (h : decode w = .ok i) :
    ∃ r ∈ opcodeMap, rowMatches r w = true ∧ r.mnemonic = mnemonic i := by
  obtain ⟨k, d, hw, hd⟩ | ⟨a, ha, hw, hd⟩ | ⟨hw, hd⟩ | ⟨-, e, hd⟩ := decode_cases w
  · obtain rfl : writeInstr k d = i := Except.ok.inj (hd.symm.trans h)
    exact ⟨writeRow k, mem_opcodeMap_iff.2 (.inl ⟨k, rfl⟩), (rowMatches_writeRow_iff k w).2 ⟨d, hw⟩,
      (mnemonic_writeInstr k d).symm⟩
  · obtain rfl : .rd a = i := Except.ok.inj (hd.symm.trans h)
    exact ⟨readRow, mem_opcodeMap_iff.2 (.inr (.inl rfl)), (rowMatches_readRow_iff w).2 ⟨a, ha, hw⟩, rfl⟩
  · obtain rfl : .step = i := Except.ok.inj (hd.symm.trans h)
    exact ⟨stepRow, mem_opcodeMap_iff.2 (.inr (.inr rfl)), (rowMatches_stepRow_iff w).2 hw, rfl⟩
  · cases hd.symm.trans h

theorem opcodeMap_mnemonic_nodup : (opcodeMap.map OpcodeRow.mnemonic).Nodup := by decide

/-- Settles O4: rows and commands are matched by their mnemonics, which are all different, so that the one command of a word tells
the one row it matches. -/
theorem decoderFollowsTheOpcodeMap : Obligations.DecoderFollowsTheOpcodeMap := by
  refine ⟨fun w i h => rowMatches_of_decode h, fun w r hr h => decode_of_rowMatches hr h, fun w r hr q hq h h' => ?_⟩
  obtain ⟨i, hi, hir⟩ := decode_of_rowMatches hr h
  obtain ⟨j, hj, hjq⟩ := decode_of_rowMatches hq h'
  obtain rfl : i = j := Except.ok.inj (hi.symm.trans hj)
  exact List.inj_on_of_nodup_map opcodeMap_mnemonic_nodup hr hq (hir.symm.trans hjq)

/-- A word decodes where a row matches, so it is reserved where none does (30_encoding R138, R139). -/
theorem reserved_iff_no_row (w : CmdWord) : Reserved w ↔ ∀ r ∈ opcodeMap, rowMatches r w = false := by
  rw [reserved_iff_decode_error]
  constructor
  · rintro ⟨e, he⟩ r hr
    by_contra h
    obtain ⟨i, hi, -⟩ := decode_of_rowMatches hr (Bool.not_eq_false _ ▸ h)
    cases he.symm.trans hi
  · intro h
    cases hd : decode w with
    | error e => exact ⟨e, rfl⟩
    | ok i =>
      obtain ⟨r, hr, hm, -⟩ := rowMatches_of_decode hd
      rw [h r hr] at hm
      cases hm

/-- A word that does not decode is refused (30_encoding R139). -/
theorem execWord_of_error {w : CmdWord} {e : DecodeError} (h : decode w = .error e) (s : State) :
    execWord w s = .next (refuse .reservedCommand s) := by
  simp only [execWord, h]

/-- Settles O5: the words no row matches are those that do not decode, and a step on one refuses it. -/
theorem reservedWordsAreRefused : Obligations.ReservedWordsAreRefused := by
  refine fun w => ⟨reserved_iff_no_row w, fun s rest hq hr => ?_⟩
  obtain ⟨e, he⟩ := (reserved_iff_decode_error w).1 hr
  rw [step_of_command hq, execWord_of_error he]
  rfl

end Sys2Proof.Machine

/-! SUPPORT. Sequences of register writes: the period pseudo-instructions (30_encoding R143) and the writes of a whole row
(60_exceptions R455). -/

namespace Sys2Proof.Machine

/-! ### Periods from two writes -/

/-- Two writes run one after the other. -/
theorem execAll_writes (a b : Fin 14) (d e : Byte) (s : State) :
    execAll [writeInstr a d, writeInstr b e] s = .next (afterWrite b e (afterWrite a d s)) := by
  rw [execAll_cons_of_next (exec_writeInstr a d s), execAll_write]

theorem afterWrite_x_self (a : Fin 14) (d : Byte) (s : State) : (afterWrite a d s).x[a] = d := by
  simp [afterWrite]

theorem afterWrite_x_other {a b : Fin 14} (h : b ≠ a) (d : Byte) (s : State) : (afterWrite b d s).x[a] = s.x[a] := by
  simp [afterWrite, Fin.val_ne_of_ne h]

/-- The bytes of a 16-bit period make it again (20_memory R102). -/
theorem bytePair_bytes (p : BitVec 16) : bytePair (p.extractLsb' 0 8) (p.extractLsb' 8 8) = p.toNat := by
  rw [bytePair_eq]
  simp only [BitVec.extractLsb'_toNat, Nat.shiftRight_eq_div_pow]
  omega

/-- The low byte and the high nibble of a 12-bit period make it again (20_memory R102). -/
theorem bytePair_byte_nibble (p : BitVec 12) :
    bytePair (p.extractLsb' 0 8) ((p.extractLsb' 8 4).zeroExtend 8) = p.toNat := by
  rw [bytePair_eq]
  simp only [BitVec.extractLsb'_toNat, BitVec.toNat_setWidth, Nat.shiftRight_eq_div_pow]
  omega

theorem max1_toNat {n : Nat} (p : BitVec n) : max1 p.toNat = if p = 0 then 1 else p.toNat := by
  simp [max1, BitVec.toNat_eq]

theorem zeroExtend_and_nibble (v : BitVec 4) : v.zeroExtend 8 &&& 0x0F = v.zeroExtend 8 := by
  revert v
  decide

/-- The next `map()` derives a tone period from the bytes of its two registers (40_register_interface R179). -/
theorem mapRegisters_tone_period (s : State) (ch : Fin 3) :
    (mapRegisters s).tone[ch].period = max1 (bytePair s.x[fineAddr ch] (s.x[coarseAddr ch] &&& 0x0F)) := by
  have hf : regMask s.cfg (fineAddr ch) = BitVec.allOnes 8 := by fin_cases ch <;> rfl
  have hc : regMask s.cfg (coarseAddr ch) = 0x0F := by fin_cases ch <;> rfl
  rw [mapRegisters_tone, mapTone, tonePeriod, clampFile_getElem, clampFile_getElem, hf, hc, BitVec.and_allOnes]

/-- The next `map()` derives the envelope period from the bytes of its two registers (40_register_interface R181). -/
theorem mapRegisters_env_period (s : State) :
    (mapRegisters s).env.period = max1 (bytePair s.x[(11 : Fin 14)] s.x[(12 : Fin 14)]) := by
  have hx (a : Fin 14) (ha : regMask s.cfg a = BitVec.allOnes 8) : (clampFile s.cfg s.x)[a] = s.x[a] := by
    rw [clampFile_getElem, ha, BitVec.and_allOnes]
  rw [mapRegisters_env, mapEnv_period, ← hx 11 rfl, ← hx 12 rfl]
  rfl

/-- Settles O59: `map()` reads the two bytes back from their registers, where they make the period again. -/
theorem periodPseudoInstructions : Obligations.PeriodPseudoInstructions := by
  refine ⟨fun s ch p => ⟨_, execAll_writes _ _ _ _ s, ?_⟩, fun s p => ⟨_, execAll_writes 11 12 _ _ s, ?_⟩⟩
  · have hne : coarseAddr ch ≠ fineAddr ch := by revert ch; decide
    rw [mapRegisters_tone_period, afterWrite_x_other hne, afterWrite_x_self, afterWrite_x_self, zeroExtend_and_nibble,
      bytePair_byte_nibble, max1_toNat]
  · rw [mapRegisters_env_period, afterWrite_x_other (by decide), afterWrite_x_self, afterWrite_x_self, bytePair_bytes,
      max1_toNat]

/-! ### The writes of a row -/

/-- A register file after the writes of the bytes `b` to the registers `as`, in order. -/
def storeBytes (b : Vector Byte 14) (as : List (Fin 14)) (x : Vector Byte 14) : Vector Byte 14 :=
  as.foldl (fun x (a : Fin 14) => x.set a b[a]) x

/-- Each register written has its byte of `b`, and the others are as they were. -/
theorem storeBytes_getElem (b : Vector Byte 14) (as : List (Fin 14)) (x : Vector Byte 14) (c : Fin 14) :
    (storeBytes b as x)[c] = if c ∈ as then b[c] else x[c] := by
  induction as generalizing x with
  | nil => rfl
  | cons a as ih =>
    have hstep : storeBytes b (a :: as) x = storeBytes b as (x.set a b[a]) := rfl
    rw [hstep, ih]
    by_cases hc : c ∈ as
    · simp [hc]
    · obtain rfl | hca := eq_or_ne c a
      · simp [hc]
      · simp [hc, hca, Fin.val_ne_of_ne hca.symm]

/-- Writes of all registers give the bytes, whatever the file was. -/
theorem storeBytes_finRange (b x : Vector Byte 14) : storeBytes b (List.finRange 14) x = b := by
  refine Vector.ext fun i hi => ?_
  have := storeBytes_getElem b (List.finRange 14) x ⟨i, hi⟩
  rwa [if_pos (List.mem_finRange _)] at this

/-- A list of writes stores its bytes and changes nothing else but the answer (40_register_interface R160). -/
theorem execAll_map_writeInstr (b : Vector Byte 14) (a : Fin 14) (as : List (Fin 14)) (s : State) :
    execAll ((a :: as).map fun c => writeInstr c b[c]) s =
      .next { s with x := storeBytes b (a :: as) s.x, response := .nothing } := by
  induction as generalizing a s with
  | nil => exact execAll_write a b[a] s
  | cons c as ih =>
    rw [List.map_cons, execAll_cons_of_next (exec_writeInstr a b[a] s), ih c]
    rfl

theorem rowWrites_length (b : Vector Byte 14) : (rowWrites b).length = 14 := by simp [rowWrites]

theorem rowWrites_getElem? (b : Vector Byte 14) (a : Fin 14) : (rowWrites b)[a.val]? = some (writeInstr a b[a]) := by
  simp [rowWrites]

/-- Settles O60: the writes of a row are one write of each register, and its routine is their words and the return. -/
theorem rowRoutineWritesEveryRegister : Obligations.RowRoutineWritesEveryRegister := by
  refine fun s b => ⟨?_, fun a => ?_, ?_, ?_⟩
  · calc execAll (rowWrites b) s
        = .next { s with x := storeBytes b (List.finRange 14) s.x, response := .nothing } :=
          execAll_map_writeInstr b 0 _ s
      _ = .next { s with x := b, response := .nothing } := by rw [storeBytes_finRange]
  · rw [rowRoutine, List.getElem?_append_left (by simp [rowWrites_length]), List.getElem?_map, rowWrites_getElem?]
    rfl
  · rw [rowRoutine, List.getElem?_append_right (by simp [rowWrites_length])]
    simp [rowWrites_length]
  · simp [rowRoutine, rowWrites_length]

end Sys2Proof.Machine

/-! SUPPORT. The register interface (40_register_interface): what a read returns after a write, a `map()` or construction, what each
field that `map()` derives is of the unclamped registers, and with it what every write command means. -/

namespace Sys2Proof.Machine

/-! ### Masks, writes and reads -/

/-- The masks are the rule's row of the table (40_register_interface R161). -/
theorem regMask_eq_maskRow (c : Config) (a : Fin 14) : regMask c a = (maskRow c).getD a.val 0 := by
  fin_cases a <;> rfl

theorem storesByte_writeInstr (a : Fin 14) (d : Byte) (s : State) : StoresByte (writeInstr a d) a d s :=
  exec_writeInstr a d s

theorem readReg_afterWrite_self (a : Fin 14) (d : Byte) (s : State) :
    readReg a (afterWrite a d s) = d &&& regMask s.cfg a :=
  readReg_writeReg_self a d s

theorem readReg_afterWrite_of_unmasked {a : Fin 14} {s : State} (h : regMask s.cfg a = BitVec.allOnes 8) (d : Byte) :
    readReg a (afterWrite a d s) = d := by
  rw [readReg_afterWrite_self, h, BitVec.and_allOnes]

/-- The register file after a write (20_memory R108). -/
theorem afterWrite_x (a b : Fin 14) (d : Byte) (s : State) :
    (afterWrite a d s).x[b] = if b = a then d else s.x[b] := by
  split_ifs with h
  · rw [h, afterWrite_x_self]
  · exact afterWrite_x_other (Ne.symm h) d s

theorem regIndex_ofNat (a : Fin 14) : regIndex (BitVec.ofNat 4 a.val) = some a := by
  revert a
  decide

theorem exec_rd (a : Fin 14) (s : State) :
    exec (.rd (BitVec.ofNat 4 a.val)) s = .next (respond (.byte (readReg a s)) s) := by
  simp only [exec, execRd, regIndex_ofNat]

/-- RD answers the masked byte and changes nothing else (40_register_interface R162). -/
theorem exec_rd_maskRow (a : Fin 14) (s : State) :
    exec (.rd (BitVec.ofNat 4 a.val)) s =
      .next { s with response := .byte (s.x[a] &&& (maskRow s.cfg).getD a.val 0) } := by
  rw [exec_rd, readReg, regMask_eq_maskRow]
  rfl

theorem readReg_initial (c : Config) (r : Routine) (a : Fin 14) : readReg a (State.initial c r) = 0 := by
  simp [readReg, State.initial]

/-- The word of a read of register `a` (30_encoding R135). -/
theorem encode_rd (a : Fin 14) : encode (.rd (BitVec.ofNat 4 a.val)) = 0x2000 ||| (BitVec.ofNat 16 a.val <<< 8) := by
  obtain ⟨-, -, hread, -⟩ := commandWordFormats
  have ha : (BitVec.ofNat 4 a.val).zeroExtend 16 = BitVec.ofNat 16 a.val := by fin_cases a <;> rfl
  rw [hread, ha]

/-- A read word is reserved where its address names no register or its data field is not 0 (30_encoding R139). -/
theorem reserved_of_read {w : CmdWord} (hc : clsField w = 2) (h : 13 < (addrField w).toNat ∨ dataField w ≠ 0) :
    Reserved w := by
  obtain ha | hd := h
  · obtain ⟨-, -, hle⟩ | ha' := regAddr_cases (addrField w)
    · omega
    · exact .inr (.inl ⟨.inr hc, ha'⟩)
  · exact .inr (.inr (.inl ⟨hc, hd⟩))

/-- Settles O12: a read masks the byte, masking it once more at a `map()` does not show, and construction stores 0. -/
theorem readReturnsTheMaskedByte : Obligations.ReadReturnsTheMaskedByte := by
  refine ⟨fun s a => ⟨encode_rd a, exec_rd_maskRow a s, ?_⟩, fun c r a => ?_, fun w hc h => ?_⟩
  · rw [readReg_mapRegisters, readReg, regMask_eq_maskRow]
  · rw [exec_rd, readReg_initial]
    rfl
  · exact (reserved_iff_decode_error w).1 (reserved_of_read hc h)

/-- Settles O13: a write changes one register and the answer, and a read then masks what the file holds. -/
theorem writesStoreAndReadBack : Obligations.WritesStoreAndReadBack := by
  refine fun s a b d => ⟨exec_writeInstr a d s, ?_⟩
  rw [exec_rd_maskRow, afterWrite_x]
  rfl

/-! ### The fields `map()` derives, of the unclamped registers -/

/-- A register whose mask keeps every bit is not clamped (40_register_interface R161, R178). -/
theorem clampFile_getElem_of_unmasked {c : Config} {a : Fin 14} (h : regMask c a = BitVec.allOnes 8) (x : Vector Byte 14) :
    (clampFile c x)[a] = x[a] := by
  rw [clampFile_getElem, h, BitVec.and_allOnes]

theorem regMask_volumeAddr (c : Config) (i : Fin 3) : regMask c (volumeAddr i) = BitVec.allOnes 8 := by
  fin_cases i <;> rfl

theorem regMask_coarseAddr (c : Config) (i : Fin 3) : regMask c (coarseAddr i) = 0x0F := by
  fin_cases i <;> rfl

theorem and_nibble_toNat (v : Byte) : (v &&& 0x0F).toNat = v.toNat % 16 := Nat.and_two_pow_sub_one_eq_mod v.toNat 4

/-- A bit test by a mask of that one bit (40_register_interface R183, R184). -/
theorem decide_and_twoPow_ne_zero (v : Byte) {k : Nat} (hk : k < 8) :
    decide (v &&& BitVec.twoPow 8 k ≠ 0) = v.getLsbD k := by
  have h0 : BitVec.twoPow 8 k ≠ 0#8 := by
    intro h
    simpa [hk] using congrArg (BitVec.getLsbD · k) h
  rw [BitVec.and_twoPow]
  cases v.getLsbD k <;> simp [h0]

theorem toneOffFlag_eq (m : Byte) (i : Fin 3) : toneOffFlag m i = m.getLsbD i.val :=
  decide_and_twoPow_ne_zero m (by omega)

theorem noiseOffFlag_eq (m : Byte) (i : Fin 3) : noiseOffFlag m i = m.getLsbD (3 + i.val) := by
  have h : 0x08#8 <<< i.val = BitVec.twoPow 8 (3 + i.val) := by revert i; decide
  rw [noiseOffFlag, h]
  exact decide_and_twoPow_ne_zero m (by omega)

theorem envSelectFlag_eq (v : Byte) : envSelectFlag v = !v.getLsbD 4 := by
  have h : decide (v &&& 0x10 ≠ 0) = v.getLsbD 4 := decide_and_twoPow_ne_zero v (k := 4) (by omega)
  rw [envSelectFlag, Bool.if_false_left, Bool.and_true, h]

theorem volumeField_val (v : Byte) : (volumeField v).val = v.toNat % 16 := by
  rw [volumeField, and_nibble_toNat]
  exact Nat.mod_mod _ _

theorem max1_bytePair_nibble (fine coarse : Byte) :
    max1 (bytePair fine (coarse &&& 0x0F)) = tonePeriodValue fine coarse := by
  rw [bytePair_eq, and_nibble_toNat, max1, tonePeriodValue]

theorem max1_bytePair (fine coarse : Byte) : max1 (bytePair fine coarse) = envPeriodValue fine coarse := by
  rw [bytePair_eq, max1, envPeriodValue]

theorem noisePeriod_clampFile (c : Config) (x : Vector Byte 14) :
    noisePeriod (clampFile c x) = noisePeriodValue c x[(6 : Fin 14)] := by
  have hx : (clampFile c x)[6] = x[(6 : Fin 14)] &&& c.noiseMask := clampFile_getElem c x 6
  rw [noisePeriod, hx, max1, noisePeriodValue, Nat.shiftLeft_eq]
  split_ifs <;> omega

/-- A tone channel keeps its counter and port, and takes the period of its two registers (40_register_interface R179). -/
theorem mapRegisters_tone_eq (s : State) (i : Fin 3) :
    (mapRegisters s).tone[i] = { s.tone[i] with period := tonePeriodValue s.x[fineAddr i] s.x[coarseAddr i] } := by
  rw [← max1_bytePair_nibble, ← mapRegisters_tone_period, mapRegisters_tone]
  rfl

/-- The noise channel keeps its counter and LFSR, and takes the period of its register (40_register_interface R180). -/
theorem mapRegisters_noise_eq (s : State) :
    (mapRegisters s).noise = { s.noise with period := noisePeriodValue s.cfg s.x[(6 : Fin 14)] } := by
  rw [mapRegisters_noise, mapNoise, noisePeriod_clampFile]

theorem mapRegisters_env_period_eq (s : State) :
    (mapRegisters s).env.period = envPeriodValue s.x[(11 : Fin 14)] s.x[(12 : Fin 14)] := by
  rw [mapRegisters_env_period, max1_bytePair]

/-- The mixer fields of a channel: its volume register and the mixer register, of which no bit is clamped
(40_register_interface R182, R183, R184). -/
theorem mapRegisters_chan_eq (s : State) (i : Fin 3) :
    (mapRegisters s).chan[i] =
      { volume := volumeField s.x[volumeAddr i]
        toneOff := s.x[(7 : Fin 14)].getLsbD i.val
        noiseOff := s.x[(7 : Fin 14)].getLsbD (3 + i.val)
        envFlag := !s.x[volumeAddr i].getLsbD 4 } := by
  have h7 : (clampFile s.cfg s.x)[7] = s.x[(7 : Fin 14)] := clampFile_getElem_of_unmasked (a := 7) rfl s.x
  rw [mapRegisters_chan, mapChan, clampFile_getElem_of_unmasked (regMask_volumeAddr s.cfg i), h7, toneOffFlag_eq,
    noiseOffFlag_eq, envSelectFlag_eq]

/-- Settles O16: each derived field is that of the unclamped registers under their masks, and `map()` writes no other field. -/
theorem mapDerivesTheFields : Obligations.MapDerivesTheFields := by
  intro s
  have hf := mapRegisters_frame s
  refine ⟨fun a => ⟨?_, readReg_mapRegisters s a⟩, mapRegisters_tone_eq s, mapRegisters_noise_eq s,
    mapRegisters_env_period_eq s, fun i => ?_, hf.cfg, mapRegisters_clock s, hf.frame, mapRegisters_interp s, hf.fir, hf.bias,
    hf.refused, hf.inFrameRoutine, hf.inputs, hf.response⟩
  · rw [mapRegisters_x, clampFile_getElem, regMask_eq_maskRow]
  · rw [mapRegisters_chan_eq]
    exact ⟨volumeField_val _, rfl, rfl, rfl⟩

/-! ### What the next `map()` makes of a written byte -/

/-- The word of a write of register `a` (30_encoding R134). -/
theorem encode_write (a : Fin 14) (d : Byte) :
    encode (writeInstr a d) = 0x1000 ||| (BitVec.ofNat 16 a.val <<< 8) ||| d.zeroExtend 16 :=
  commandWordFormats.1 a d

theorem mapAfter_x_self (a : Fin 14) (d : Byte) (s : State) : (mapAfter a d s).x[a] = d &&& regMask s.cfg a := by
  rw [mapAfter, mapRegisters_x, clampFile_getElem, afterWrite_x_self]
  rfl

theorem mapAfter_fine_period (i : Fin 3) (d : Byte) (s : State) :
    (mapAfter (fineAddr i) d s).tone[i].period = tonePeriodValue d s.x[coarseAddr i] := by
  have hne : fineAddr i ≠ coarseAddr i := by revert i; decide
  rw [mapAfter, mapRegisters_tone_eq, afterWrite_x_self, afterWrite_x_other hne]

theorem mapAfter_coarse_period (i : Fin 3) (d : Byte) (s : State) :
    (mapAfter (coarseAddr i) d s).tone[i].period = tonePeriodValue s.x[fineAddr i] d := by
  have hne : coarseAddr i ≠ fineAddr i := by revert i; decide
  rw [mapAfter, mapRegisters_tone_eq, afterWrite_x_self, afterWrite_x_other hne]

/-- A coarse byte loses its high nibble at the next `map()`, and no read returns it (40_register_interface R164, R166, R168). -/
theorem mapAfter_coarse (i : Fin 3) (d : Byte) (s : State) :
    (mapAfter (coarseAddr i) d s).x[coarseAddr i] = d &&& 0x0F ∧
      readReg (coarseAddr i) (afterWrite (coarseAddr i) d s) = d &&& 0x0F ∧
      (mapAfter (coarseAddr i) d s).tone[i].period = tonePeriodValue s.x[fineAddr i] d := by
  rw [mapAfter_x_self, readReg_afterWrite_self, regMask_coarseAddr]
  exact ⟨rfl, rfl, mapAfter_coarse_period i d s⟩

/-- Settles O8: the three channels are one argument over their fine and coarse registers. -/
theorem tonePeriodWrites : Obligations.TonePeriodWrites := by
  intro s d
  have fine (i : Fin 3) := And.intro (storesByte_writeInstr (fineAddr i) d s) (mapAfter_fine_period i d s)
  have coarse (i : Fin 3) := And.intro (storesByte_writeInstr (coarseAddr i) d s) (mapAfter_coarse i d s)
  exact ⟨⟨encode_write 0 d, fine 0⟩, ⟨encode_write 1 d, coarse 0⟩, ⟨encode_write 2 d, fine 1⟩,
    ⟨encode_write 3 d, coarse 1⟩, ⟨encode_write 4 d, fine 2⟩, ⟨encode_write 5 d, coarse 2⟩⟩

/-- A write derives the same fields whichever values its unused bits have (10_state R57, R58). -/
theorem onlyBitsMatter_usedBits (a : Fin 14) (d : Byte) (s : State) :
    OnlyBitsMatter a ((usedBits s.cfg).getD a.val 0) d s := by
  generalize hm : (usedBits s.cfg).getD a.val 0 = m
  refine mapRegisters_of_sameUsedBits (s := afterWrite a (d &&& m) s) (y := (afterWrite a d s).x) fun b => ?_
  obtain rfl | hb := eq_or_ne a b
  · have hm' : (usedBits (afterWrite a (d &&& m) s).cfg).getD a.val 0 = m := hm
    rw [afterWrite_x_self, afterWrite_x_self, hm', BitVec.and_assoc, BitVec.and_self]
  · rw [afterWrite_x_other hb, afterWrite_x_other hb]

/-- The gates of a channel after a mixer write (40_register_interface R170, R183). -/
theorem mapAfter_mixer_gates (d : Byte) (s : State) (i : Fin 3) :
    (mapAfter 7 d s).chan[i].toneOff = d.getLsbD i.val ∧ (mapAfter 7 d s).chan[i].noiseOff = d.getLsbD (3 + i.val) := by
  rw [mapAfter, mapRegisters_chan_eq, afterWrite_x_self]
  exact ⟨rfl, rfl⟩

/-- A gate with both sources switched off is open (43_mixer_dac R294). -/
theorem gateBit_off (toneBit noiseBit : Bool) : gateBit toneBit true noiseBit true = true := by simp [gateBit]

/-- Settles O9: the noise period and the gates are fields of the written byte, and 0x3F sets all six gate bits. -/
theorem noiseAndMixerWrites : Obligations.NoiseAndMixerWrites := by
  refine fun s d => ⟨⟨encode_write 6 d, storesByte_writeInstr 6 d s, ?_⟩, encode_write 7 d, storesByte_writeInstr 7 d s,
    readReg_afterWrite_of_unmasked rfl d, onlyBitsMatter_usedBits 7 d s, mapAfter_mixer_gates d s, ?_⟩
  · rw [mapAfter, mapRegisters_noise_eq, afterWrite_x_self]
    rfl
  · rintro rfl i toneBit noiseBit
    have hbits : ∀ j : Fin 3, (0x3F : Byte).getLsbD j.val = true ∧ (0x3F : Byte).getLsbD (3 + j.val) = true := by decide
    rw [(mapAfter_mixer_gates _ s i).1, (mapAfter_mixer_gates _ s i).2, (hbits i).1, (hbits i).2, gateBit_off]

/-- The mixer fields and the DAC index of a channel after a write of its volume register (43_mixer_dac R291). -/
theorem mapAfter_volume (i : Fin 3) (d : Byte) (s : State) :
    (mapAfter (volumeAddr i) d s).chan[i].volume.val = d.toNat % 16 ∧
      (mapAfter (volumeAddr i) d s).chan[i].envFlag = !d.getLsbD 4 ∧
      ∀ e : Fin 32, (dacIndex (mapAfter (volumeAddr i) d s).chan[i] e).val =
        if d.getLsbD 4 then e.val else d.toNat % 16 * 2 + 1 := by
  rw [mapAfter, mapRegisters_chan_eq, afterWrite_x_self]
  refine ⟨volumeField_val d, rfl, fun e => ?_⟩
  cases h : d.getLsbD 4 with
  | true => rfl
  | false => exact congrArg (· * 2 + 1) (volumeField_val d)

/-- Settles O10: the three channels are one argument over their volume registers. -/
theorem volumeWrites : Obligations.VolumeWrites := by
  intro s d
  have volume (i : Fin 3) := And.intro (storesByte_writeInstr (volumeAddr i) d s) <|
    And.intro (readReg_afterWrite_of_unmasked (regMask_volumeAddr s.cfg i) d) <|
    And.intro (onlyBitsMatter_usedBits (volumeAddr i) d s) (mapAfter_volume i d s)
  exact ⟨⟨encode_write 8 d, volume 0⟩, ⟨encode_write 9 d, volume 1⟩, ⟨encode_write 10 d, volume 2⟩⟩

/-! ### The envelope after `map()` -/

theorem shapeField_and_nibble (d : Byte) : shapeField (d &&& 0x0F) = shapeField d := Fin.ext (shapeField_and_val d)

/-- A shape other than the stored one is stored and restarts the envelope (42_envelope R259). -/
theorem envChange_of_shape_ne {e : Env} (h : e.shape ≠ e.store) :
    envChange e = envReset { e with store := e.shape, strobe := false, counter := 0 } := if_pos h

/-- ENV_CHANGE leaves the stored shape equal to the shape (42_envelope R259). -/
theorem envChange_store (e : Env) : (envChange e).store = (envChange e).shape := by
  obtain h | h := eq_or_ne e.shape e.store
  · rw [envChange_of_shape_eq h, h]
  · rw [envChange_of_shape_ne h]
    rfl

/-- ENV_CHANGE classifies nothing (42_envelope R259). -/
theorem envChange_classification (e : Env) :
    (envChange e).shape = e.shape ∧ (envChange e).offset = e.offset ∧ (envChange e).transient = e.transient := by
  obtain h | h := eq_or_ne e.shape e.store
  · rw [envChange_of_shape_eq h]
    exact ⟨rfl, rfl, rfl⟩
  · rw [envChange_of_shape_ne h]
    exact ⟨rfl, rfl, rfl⟩

/-- A reset with the strobe clear starts at the class's own level (42_envelope R258, R259). -/
theorem envReset_step_of_strobe {e : Env} (h : e.strobe = false) : (envReset e).step = restartLevel e.offset := by
  unfold envReset
  rw [h]
  cases e.offset <;> rfl

/-- The transient of a row, or where it has none the one the envelope had (42_envelope R253). -/
theorem envClassifyRow_transient (row : EnvRow) (v : Fin 16) (e : Env) :
    (envClassifyRow row v e).transient = row.transient.getD e.transient := by
  unfold envClassifyRow
  cases row.transient <;> rfl

section
variable {s : State} {v : Fin 16} (hv : shapeField s.x[(13 : Fin 14)] = v)
include hv

/-- The envelope after `map()` is ENV_CHANGE of the classified shape register, with the period derived (40_register_interface
R181, 42_envelope R252, R259). -/
theorem mapRegisters_env_eq :
    (mapRegisters s).env =
      envChange (envClassifyRow s.cfg.envClass[v] v { s.env with period := envPeriod (clampFile s.cfg s.x) }) := by
  have h13 : shapeField (clampFile s.cfg s.x)[13] = v :=
    (congrArg shapeField (clampFile_getElem s.cfg s.x 13)).trans ((shapeField_and_nibble _).trans hv)
  simp only [mapRegisters_env, mapEnv, h13]

/-- The classification of the shape register (42_envelope R251, R252, R253). -/
theorem mapRegisters_env_classification :
    (mapRegisters s).env.shape = v ∧ (mapRegisters s).env.offset = s.cfg.envClass[v].offset ∧
      (mapRegisters s).env.transient = s.cfg.envClass[v].transient.getD s.env.transient := by
  obtain ⟨hshape, hoffset, htransient⟩ := envChange_classification
    (envClassifyRow s.cfg.envClass[v] v { s.env with period := envPeriod (clampFile s.cfg s.x) })
  rw [mapRegisters_env_eq hv, hshape, hoffset, htransient, envClassifyRow_transient]
  exact ⟨rfl, rfl, rfl⟩

/-- A shape register that differs from the stored shape restarts the envelope (42_envelope R259). -/
theorem mapRegisters_env_restart (h : v ≠ s.env.store) :
    (mapRegisters s).env.strobe = false ∧ (mapRegisters s).env.counter = 0 ∧
      (mapRegisters s).env.step = restartLevel s.cfg.envClass[v].offset := by
  rw [mapRegisters_env_eq hv, envChange_of_shape_ne h]
  exact ⟨rfl, rfl, envReset_step_of_strobe rfl⟩

/-- A shape register that holds the stored shape restarts nothing (42_envelope R259). -/
theorem mapRegisters_env_keep (h : v = s.env.store) :
    (mapRegisters s).env.strobe = s.env.strobe ∧ (mapRegisters s).env.counter = s.env.counter ∧
      (mapRegisters s).env.step = s.env.step := by
  rw [mapRegisters_env_eq hv, envChange_of_shape_eq h]
  exact ⟨rfl, rfl, rfl⟩

end

/-- A counter at or above the period advances the envelope at the next tick (42_envelope R260). -/
theorem envTick_of_period_le {e : Env} (h : e.period ≤ e.counter) : envTick e = envAdvance { e with counter := 0 } :=
  if_pos (Nat.le_succ_of_le h)

theorem mapAfter_env_period_fine (d : Byte) (s : State) :
    (mapAfter 11 d s).env.period = envPeriodValue d s.x[(12 : Fin 14)] := by
  rw [mapAfter, mapRegisters_env_period_eq, afterWrite_x_self, afterWrite_x_other (by decide)]

theorem mapAfter_env_period_coarse (d : Byte) (s : State) :
    (mapAfter 12 d s).env.period = envPeriodValue s.x[(11 : Fin 14)] d := by
  rw [mapAfter, mapRegisters_env_period_eq, afterWrite_x_self, afterWrite_x_other (by decide)]

/-- Settles O11: a period write reaches no shape register, and a shape write is classified and then goes through ENV_CHANGE. -/
theorem envelopeWrites : Obligations.EnvelopeWrites := by
  intro s d
  have hfine : shapeField (afterWrite 11 d s).x[(13 : Fin 14)] = shapeField s.x[(13 : Fin 14)] := by
    rw [afterWrite_x_other (by decide)]
  have hshape : shapeField (afterWrite 13 d s).x[(13 : Fin 14)] = shapeField d := by rw [afterWrite_x_self]
  obtain ⟨hs, ho, ht⟩ := mapRegisters_env_classification hshape
  refine ⟨⟨encode_write 11 d, storesByte_writeInstr 11 d s, mapAfter_env_period_fine d s, fun h => ?_, envTick_of_period_le⟩,
    ⟨encode_write 12 d, storesByte_writeInstr 12 d s, mapAfter_env_period_coarse d s⟩,
    encode_write 13 d, storesByte_writeInstr 13 d s, mapAfter_x_self 13 d s, ?_, ho, ht, fun h => ?_, fun h => ?_⟩
  · obtain ⟨-, hcounter, -⟩ := mapRegisters_env_keep hfine (Fin.ext h)
    exact hcounter
  · rw [mapAfter, hs]
    rfl
  · exact mapRegisters_env_restart hshape fun e => h (congrArg Fin.val e)
  · exact mapRegisters_env_keep hshape (Fin.ext h)

/-! ### `map()` once more -/

/-- Clamping a clamped file changes nothing (40_register_interface R178). -/
theorem clampFile_clampFile (c : Config) (x : Vector Byte 14) : clampFile c (clampFile c x) = clampFile c x := by
  refine Vector.ext fun i hi => ?_
  change (clampFile c (clampFile c x))[(⟨i, hi⟩ : Fin 14)] = (clampFile c x)[(⟨i, hi⟩ : Fin 14)]
  rw [clampFile_getElem c (clampFile c x), clampFile_getElem c x, BitVec.and_assoc, BitVec.and_self]

/-- Deriving the period and classifying once more after ENV_CHANGE changes nothing: ENV_CHANGE writes neither, and a transient that
the row leaves alone is left alone again (42_envelope R252, R253). -/
theorem envClassifyRow_envChange (row : EnvRow) (v : Fin 16) (p : Nat) (e : Env) :
    envClassifyRow row v { envChange (envClassifyRow row v { e with period := p }) with period := p } =
      envChange (envClassifyRow row v { e with period := p }) := by
  obtain h | h := eq_or_ne (envClassifyRow row v { e with period := p }).shape (envClassifyRow row v { e with period := p }).store
  · rw [envChange_of_shape_eq h]
    unfold envClassifyRow
    cases row.transient <;> rfl
  · rw [envChange_of_shape_ne h]
    unfold envClassifyRow
    cases row.transient <;> rfl

/-- The envelope part of `map()` run again on the same file: the first ENV_CHANGE has stored the shape, so the second finds nothing
to restart (42_envelope R259). -/
theorem mapEnv_mapEnv (c : Config) (x : Vector Byte 14) (e : Env) : mapEnv c x (mapEnv c x e) = mapEnv c x e := by
  unfold mapEnv
  rw [envClassifyRow_envChange]
  exact envChange_of_shape_eq (envChange_store _).symm

theorem mapTone_mapTone (x : Vector Byte 14) (i : Fin 3) (t : Tone) : mapTone x i (mapTone x i t) = mapTone x i t := rfl

theorem mapNoise_mapNoise (x : Vector Byte 14) (n : Noise) : mapNoise x (mapNoise x n) = mapNoise x n := rfl

/-- Settles O17: the file is clamped already, and each part of `map()` run again on the same file changes nothing. -/
theorem mapTwiceIsMapOnce : Obligations.MapTwiceIsMapOnce := by
  intro s
  simp only [mapRegisters, clampFile_clampFile, mapEnv_mapEnv, mapNoise_mapNoise, Fin.getElem_fin, Vector.getElem_ofFn,
    mapTone_mapTone]

end Sys2Proof.Machine

/-! SUPPORT. The oscillators (41_tone_noise): one tick of a tone and of the noise channel, the square wave that tone ticks make, the
bits of the LFSR's next state, and the LFSR's periods from its seed, by the linear map over two elements that its shift is. -/

namespace Sys2Proof.Machine

/-! ### Ticks -/

/-- A tick whose incremented counter reaches the period flips the port (41_tone_noise R221). -/
theorem toneTick_of_reached {t : Tone} (h : t.period ≤ t.counter + 1) :
    toneTick t = { counter := 0, port := !t.port, period := t.period } := if_pos h

/-- A tick before that only counts (41_tone_noise R221). -/
theorem toneTick_of_lt {t : Tone} (h : t.counter + 1 < t.period) :
    toneTick t = { counter := t.counter + 1, port := t.port, period := t.period } := if_neg h.not_ge

/-- Settles O20: the two cases of the comparison after the increment. -/
theorem toneTickFlipsAtThePeriod : Obligations.ToneTickFlipsAtThePeriod :=
  fun _ => ⟨toneTick_of_reached, toneTick_of_lt⟩

/-- A tick whose incremented counter reaches the period shifts the LFSR (41_tone_noise R224). -/
theorem noiseTick_of_reached {pos : LfsrFbPos} {n : Noise} (h : n.period ≤ n.counter + 1) :
    noiseTick pos n = { counter := 0, period := n.period, lfsr := lfsrNext pos n.lfsr } := if_pos h

/-- A tick before that only counts (41_tone_noise R224). -/
theorem noiseTick_of_lt {pos : LfsrFbPos} {n : Noise} (h : n.counter + 1 < n.period) :
    noiseTick pos n = { counter := n.counter + 1, period := n.period, lfsr := n.lfsr } := if_neg h.not_ge

/-- Settles O22: the two cases of the comparison after the increment; the output is bit 0 by definition. -/
theorem noiseTickShiftsAtThePeriod : Obligations.NoiseTickShiftsAtThePeriod :=
  fun _ _ => ⟨noiseTick_of_reached, noiseTick_of_lt, rfl⟩

/-! ### The square wave -/

theorem toneTicks_succ (n : Nat) (t : Tone) : toneTicks (n + 1) t = toneTick (toneTicks n t) :=
  Function.iterate_succ_apply' toneTick n t

theorem decide_succ_odd (q : Nat) : decide ((q + 1) % 2 = 1) = !decide (q % 2 = 1) := by
  rw [← decide_not, decide_eq_decide]
  omega

/-- Settles O21, by induction on the ticks: the quotient grows, and the port flips, exactly where the remainder goes back to 0. -/
theorem toneIsASquareWave : Obligations.ToneIsASquareWave := by
  intro p n b hp
  induction n with
  | zero => simp [toneTicks]
  | succ n ih =>
    have hmod : (n + 1) % p = (n % p + 1) % p := (Nat.mod_add_mod n p 1).symm
    rw [toneTicks_succ, ih]
    obtain hlt | hle := lt_or_ge (n % p + 1) p
    · rw [Nat.mod_eq_of_lt hlt] at hmod
      have hdiv : (n + 1) / p = n / p := Nat.succ_div_of_not_dvd (by rw [Nat.dvd_iff_mod_eq_zero]; omega)
      rw [toneTick_of_lt hlt, hmod, hdiv]
    · rw [le_antisymm (Nat.mod_lt n hp) hle, Nat.mod_self] at hmod
      have hdiv : (n + 1) / p = n / p + 1 := Nat.succ_div_of_dvd (Nat.dvd_of_mod_eq_zero hmod)
      rw [toneTick_of_reached hle, hmod, hdiv, decide_succ_odd, Bool.xor_not]

/-! ### The bits of the next LFSR state -/

/-- Settles O23: the bits move down by one, which leaves bit 16 clear, and the feedback joins bit 16 or bit 15. -/
theorem lfsrNextStateBits : Obligations.LfsrNextStateBits := by
  intro s k hk
  rw [lfsrNext_getLsbD, lfsrNext_getLsbD]
  constructor
  · obtain rfl | h := eq_or_ne k 16 <;> simp [feedbackBit, *]
  · obtain rfl | h := eq_or_ne k 16
    · simp [feedbackBit]
    · obtain rfl | h' := eq_or_ne k 15 <;> simp [feedbackBit, *]

/-! ### The shift as a linear map -/

/-- LFSR_NEXT with exclusive or in place of or: a linear map over two elements (41_tone_noise R225, R226). -/
def linearShift (pos : LfsrFbPos) (s : BitVec 17) : BitVec 17 :=
  match pos with
  | .pos16 => (s >>> 1) ^^^ (lfsrFeedback s <<< 16)
  | .pos15 => (s ^^^ (lfsrFeedback s <<< 16)) >>> 1

theorem linearShift_getLsbD (pos : LfsrFbPos) (s : BitVec 17) (i : Nat) :
    (linearShift pos s).getLsbD i =
      xor (s.getLsbD (i + 1)) (decide (i = feedbackBit pos) && xor (s.getLsbD 0) (s.getLsbD 3)) := by
  cases pos with
  | pos16 =>
    rw [linearShift, BitVec.getLsbD_xor, BitVec.getLsbD_ushiftRight, lfsrFeedback_shift_getLsbD, Nat.add_comm 1 i, feedbackBit]
  | pos15 =>
    rw [linearShift, BitVec.getLsbD_ushiftRight, BitVec.getLsbD_xor, lfsrFeedback_shift_getLsbD, Nat.add_comm 1 i, feedbackBit]
    simp

theorem linearShift_zero (pos : LfsrFbPos) : linearShift pos 0 = 0 := by cases pos <;> decide

theorem linearShift_xor (pos : LfsrFbPos) (s t : BitVec 17) :
    linearShift pos (s ^^^ t) = linearShift pos s ^^^ linearShift pos t := by
  refine BitVec.eq_of_getLsbD_eq fun i _ => ?_
  simp only [linearShift_getLsbD, BitVec.getLsbD_xor, Bool.and_xor_distrib_left, Bool.xor_assoc, Bool.xor_left_comm]

/-- The states that a shift stays in: the bit above the position of the feedback is clear (assumption log 14), as it always is
at position 16. -/
def AtRest (pos : LfsrFbPos) (s : BitVec 17) : Prop := s.getLsbD (feedbackBit pos + 1) = false

theorem atRest_lfsrNext (pos : LfsrFbPos) (s : BitVec 17) : AtRest pos (lfsrNext pos s) := by
  rw [AtRest, lfsrNext_getLsbD]
  cases pos <;> simp [feedbackBit]

/-- At rest the feedback never meets a set bit, so that or and exclusive or agree. -/
theorem lfsrNext_eq_linearShift {pos : LfsrFbPos} {s : BitVec 17} (h : AtRest pos s) : lfsrNext pos s = linearShift pos s := by
  refine BitVec.eq_of_getLsbD_eq fun i _ => ?_
  rw [lfsrNext_getLsbD, linearShift_getLsbD]
  obtain rfl | hi := eq_or_ne i (feedbackBit pos)
  · rw [AtRest] at h
    rw [h, Bool.false_or, Bool.false_xor]
  · simp [hi]

theorem atRest_lfsrNext_iterate {pos : LfsrFbPos} {s : BitVec 17} (h : AtRest pos s) (n : Nat) :
    AtRest pos ((lfsrNext pos)^[n] s) := by
  cases n with
  | zero => exact h
  | succ n =>
    rw [Function.iterate_succ_apply']
    exact atRest_lfsrNext pos _

theorem lfsrNext_iterate_eq {pos : LfsrFbPos} {s : BitVec 17} (h : AtRest pos s) (n : Nat) :
    (lfsrNext pos)^[n] s = (linearShift pos)^[n] s := by
  induction n with
  | zero => rfl
  | succ n ih =>
    rw [Function.iterate_succ_apply', Function.iterate_succ_apply', ← ih,
      lfsrNext_eq_linearShift (atRest_lfsrNext_iterate h n)]

/-! ### Jumps along the orbit of the seed -/

/-- A sum of shifts of `w` that is the state with bit `i` alone when `w` is the seed 1: bits 0 and 3 feed back, so that bits 1 and 2
take two terms. -/
def unitShift (pos : LfsrFbPos) (i : Nat) (w : BitVec 17) : BitVec 17 :=
  match i with
  | 0 => w
  | 1 => (linearShift pos)^[feedbackBit pos] w ^^^ (linearShift pos)^[2] w
  | 2 => (linearShift pos)^[feedbackBit pos - 1] w ^^^ (linearShift pos)^[1] w
  | i + 3 => (linearShift pos)^[feedbackBit pos - 2 - i] w

theorem unitShift_seed (pos : LfsrFbPos) : ∀ i < feedbackBit pos + 1, unitShift pos i 1 = BitVec.twoPow 17 i := by
  cases pos <;> decide

theorem linearShift_unitShift (pos : LfsrFbPos) (i : Nat) (w : BitVec 17) :
    linearShift pos (unitShift pos i w) = unitShift pos i (linearShift pos w) := by
  have hcomm (n : Nat) : linearShift pos ((linearShift pos)^[n] w) = (linearShift pos)^[n] (linearShift pos w) :=
    (Function.Commute.self_iterate (linearShift pos) n) w
  match i with
  | 0 => rfl
  | 1 | 2 => rw [unitShift, unitShift, linearShift_xor, hcomm, hcomm]
  | i + 3 => exact hcomm _

/-- A sum of shifts of `w` that is the low `n` bits of `v` when `w` is the seed 1. -/
def shiftSum (pos : LfsrFbPos) (v w : BitVec 17) : Nat → BitVec 17
  | 0 => 0
  | n + 1 => shiftSum pos v w n ^^^ (bif v.getLsbD n then unitShift pos n w else 0)

theorem shiftSum_seed_getLsbD {pos : LfsrFbPos} (v : BitVec 17) {n : Nat} (hn : n ≤ feedbackBit pos + 1) (k : Nat) (hk : k < 17) :
    (shiftSum pos v 1 n).getLsbD k = (decide (k < n) && v.getLsbD k) := by
  induction n with
  | zero => simp [shiftSum]
  | succ n ih =>
    rw [shiftSum, BitVec.getLsbD_xor, ih (by omega), unitShift_seed pos n hn]
    obtain hlt | rfl | hgt := lt_trichotomy k n
    · cases v.getLsbD n <;> simp [hlt, hlt.ne', BitVec.getLsbD_twoPow, show k < n + 1 by omega]
    · cases h : v.getLsbD k <;> simp [hk]
    · cases v.getLsbD n <;> simp [hgt.ne, hgt.not_gt, BitVec.getLsbD_twoPow, show ¬k < n + 1 by omega]

theorem linearShift_shiftSum (pos : LfsrFbPos) (v w : BitVec 17) (n : Nat) :
    linearShift pos (shiftSum pos v w n) = shiftSum pos v (linearShift pos w) n := by
  induction n with
  | zero => exact linearShift_zero pos
  | succ n ih =>
    rw [shiftSum, shiftSum, linearShift_xor, ih]
    cases v.getLsbD n
    · rw [cond_false, cond_false, linearShift_zero]
    · rw [cond_true, cond_true, linearShift_unitShift]

/-- The sum of shifts that makes `v` of the seed, applied to `w`: the product in the ring of
the sums of shifts. -/
def seedMul (pos : LfsrFbPos) (v w : BitVec 17) : BitVec 17 := shiftSum pos v w (feedbackBit pos + 1)

theorem seedMul_seed {pos : LfsrFbPos} {v : BitVec 17} (h : AtRest pos v) : seedMul pos v 1 = v := by
  refine BitVec.eq_of_getLsbD_eq fun k hk => ?_
  rw [seedMul, shiftSum_seed_getLsbD v le_rfl k hk]
  obtain hlt | hge := lt_or_ge k (feedbackBit pos + 1)
  · simp only [hlt, decide_true, Bool.true_and]
  · have : k = feedbackBit pos + 1 := by cases pos <;> simp only [feedbackBit] at hge ⊢ <;> omega
    subst this
    simpa using h.symm

theorem linearShift_iterate_seedMul (pos : LfsrFbPos) (v w : BitVec 17) (n : Nat) :
    (linearShift pos)^[n] (seedMul pos v w) = seedMul pos v ((linearShift pos)^[n] w) :=
  (Function.Commute.iterate_left (g := seedMul pos v) (linearShift_shiftSum pos v · _) n) w

/-- The state after `m + n` shifts from those after `m` and after `n`: the `n` shifts pass through the sum of shifts that makes the
state after `m` of the seed. -/
theorem lfsrNext_iterate_add_seed (pos : LfsrFbPos) (m n : Nat) :
    (lfsrNext pos)^[m + n] 1 = seedMul pos ((lfsrNext pos)^[m] 1) ((lfsrNext pos)^[n] 1) := by
  have hrest : AtRest pos 1 := by cases pos <;> rfl
  have hm := seedMul_seed (atRest_lfsrNext_iterate hrest m)
  calc (lfsrNext pos)^[m + n] 1
      = (linearShift pos)^[n] ((lfsrNext pos)^[m] 1) := by
        rw [Nat.add_comm, Function.iterate_add_apply, lfsrNext_iterate_eq (atRest_lfsrNext_iterate hrest m)]
    _ = seedMul pos ((lfsrNext pos)^[m] 1) ((linearShift pos)^[n] 1) := by
        rw [← linearShift_iterate_seedMul, hm]
    _ = seedMul pos ((lfsrNext pos)^[m] 1) ((lfsrNext pos)^[n] 1) := by rw [lfsrNext_iterate_eq hrest n]

/-- From the states `u` after `a` shifts and `v` after `n`, the one after `a + (n + n)`. -/
def seedJump (pos : LfsrFbPos) (u v : BitVec 17) : BitVec 17 := seedMul pos u (seedMul pos v v)

theorem lfsrNext_iterate_mul_two_pow_sub_one (pos : LfsrFbPos) (a k : Nat) :
    (lfsrNext pos)^[a * (2 ^ k - 1)] 1 = (seedJump pos ((lfsrNext pos)^[a] 1))^[k] 1 := by
  induction k with
  | zero => rfl
  | succ k ih =>
    have hexp : a * (2 ^ (k + 1) - 1) = a + (a * (2 ^ k - 1) + a * (2 ^ k - 1)) := by
      obtain ⟨m, hm⟩ := Nat.exists_eq_add_of_le' (Nat.one_le_two_pow (n := k))
      rw [pow_succ, hm, Nat.add_sub_cancel, show (m + 1) * 2 - 1 = 1 + (m + m) by omega]
      ring
    rw [hexp, lfsrNext_iterate_add_seed, lfsrNext_iterate_add_seed, ih, Function.iterate_succ_apply', seedJump]

/-! ### The periods -/

/-- A period that is the product of two primes is the least one if neither prime is a period. -/
theorem minimalPeriod_eq_mul_of_primes {α : Type} {f : α → α} {x : α} {p q : Nat} (hp : p.Prime) (hq : q.Prime)
    (hper : Function.IsPeriodicPt f (p * q) x) (hnp : ¬Function.IsPeriodicPt f p x) (hnq : ¬Function.IsPeriodicPt f q x) :
    Function.minimalPeriod f x = p * q := by
  rw [Function.isPeriodicPt_iff_minimalPeriod_dvd] at hper hnp hnq
  obtain ⟨d, e, hd, he, hde⟩ := Nat.dvd_mul.1 hper
  rw [← hde] at hnp hnq ⊢
  obtain rfl | rfl := (Nat.dvd_prime hp).1 hd
  · exact absurd (by rwa [one_mul]) hnq
  · obtain rfl | rfl := (Nat.dvd_prime hq).1 he
    · exact absurd (by rw [mul_one]) hnp
    · rfl

/-- 131071 = 2^17 - 1 is prime, so the least period is it or 1. -/
theorem minimalPeriod_lfsrNext_pos16 : Function.minimalPeriod (lfsrNext .pos16) 1 = 131071 := by
  have hper : Function.IsPeriodicPt (lfsrNext .pos16) 131071 1 :=
    (lfsrNext_iterate_mul_two_pow_sub_one .pos16 1 17).trans (by decide +kernel)
  have : Fact (Nat.Prime 131071) := ⟨by norm_num⟩
  exact Function.minimalPeriod_eq_prime hper (by decide)

/-- 57337 = (2^3 - 1) (2^13 - 1), two primes, neither of which is a period. -/
theorem minimalPeriod_lfsrNext_pos15 : Function.minimalPeriod (lfsrNext .pos15) 1 = 57337 := by
  have h8191 : (lfsrNext .pos15)^[8191] 1 = (seedJump .pos15 ((lfsrNext .pos15)^[1] 1))^[13] 1 :=
    lfsrNext_iterate_mul_two_pow_sub_one .pos15 1 13
  have hper : Function.IsPeriodicPt (lfsrNext .pos15) (7 * 8191) 1 := by
    refine (lfsrNext_iterate_mul_two_pow_sub_one .pos15 8191 3).trans ?_
    rw [h8191]
    decide +kernel
  have hn7 : ¬Function.IsPeriodicPt (lfsrNext .pos15) 7 1 := by decide
  have hn8191 : ¬Function.IsPeriodicPt (lfsrNext .pos15) 8191 1 := by
    rw [Function.IsPeriodicPt, Function.IsFixedPt, h8191]
    decide +kernel
  exact minimalPeriod_eq_mul_of_primes (by norm_num) (by norm_num) hper hn7 hn8191

/-- The least period is the number of steps to the first return. -/
theorem first_return_of_minimalPeriod {α : Type} {f : α → α} {x : α} {n : Nat} (h : Function.minimalPeriod f x = n) :
    f^[n] x = x ∧ ∀ k, 0 < k → k < n → f^[k] x ≠ x := by
  subst h
  exact ⟨Function.iterate_minimalPeriod, fun _ h0 hlt =>
    Function.not_isPeriodicPt_of_pos_of_lt_minimalPeriod h0.ne' hlt⟩

/-- Settles O26: the least periods, reached by squaring in the ring of the sums of shifts. -/
theorem lfsrPeriods : Obligations.LfsrPeriods :=
  ⟨first_return_of_minimalPeriod minimalPeriod_lfsrNext_pos16, first_return_of_minimalPeriod minimalPeriod_lfsrNext_pos15⟩

end Sys2Proof.Machine

/-! SUPPORT. The envelope (42_envelope): the classification of a shape and the restart by a changed one, what one advance and one
tick do, the ramp of a half-cycle, and the traces that one or two half-cycles make. -/

namespace Sys2Proof.Machine

/-! ### Classification and restart by `map()` -/

/-- The rows of the classification table (42_envelope R251). -/
theorem envClassTable_rows (v : Fin 16) :
    (v.val ∈ [0, 1, 2, 3, 9] → envClassTable[v] = ⟨.class0, some .low⟩) ∧
    (v.val = 11 → envClassTable[v] = ⟨.class0, some .high⟩) ∧
    (v.val ∈ [4, 5, 6, 7, 15] → envClassTable[v] = ⟨.class1, some .low⟩) ∧
    (v.val = 13 → envClassTable[v] = ⟨.class1, some .high⟩) ∧
    (v.val = 8 → envClassTable[v] = ⟨.class2, none⟩) ∧
    (v.val = 12 → envClassTable[v] = ⟨.class3, none⟩) ∧
    (v.val = 10 → envClassTable[v] = ⟨.class4, none⟩) ∧
    (v.val = 14 → envClassTable[v] = ⟨.class5, none⟩) := by
  revert v
  decide

/-- Settles O18: the shape register's row of the table gives the class, and the transient where it has one. -/
theorem mapClassifiesTheShape : Obligations.MapClassifiesTheShape := by
  intro s hcfg
  obtain ⟨hs, ho, ht⟩ := mapRegisters_env_classification (s := s) rfl
  have hrow {row : EnvRow} (h : envClassTable[shapeField s.x[(13 : Fin 14)]] = row) :
      (mapRegisters s).env.offset = row.offset ∧
        (mapRegisters s).env.transient = row.transient.getD s.env.transient := by
    rw [ho, ht, hcfg, h]
    exact ⟨rfl, rfl⟩
  obtain ⟨h0, h11, h4, h13, h8, h12, h10, h14⟩ := envClassTable_rows (shapeField s.x[(13 : Fin 14)])
  exact ⟨congrArg Fin.val hs, fun h => hrow (h0 h), fun h => hrow (h11 h), fun h => hrow (h4 h), fun h => hrow (h13 h),
    fun h => hrow (h8 h), fun h => hrow (h12 h), fun h => hrow (h10 h), fun h => hrow (h14 h)⟩

/-- After `map()` the stored shape is the shape (42_envelope R259). -/
theorem mapRegisters_env_store (s : State) : (mapRegisters s).env.store = (mapRegisters s).env.shape := by
  rw [mapRegisters_env_eq rfl, envChange_store]

/-- Settles O19: ENV_CHANGE compares the masked shape register with the stored shape, and stores it in both cases. -/
theorem shapeChangeRestartsTheEnvelope : Obligations.ShapeChangeRestartsTheEnvelope := by
  refine fun s => ⟨fun h => ?_, fun h => ?_⟩
  · exact ⟨mapRegisters_env_store s, mapRegisters_env_restart rfl fun e => h (congrArg Fin.val e)⟩
  · obtain ⟨hs, -, -⟩ := mapRegisters_env_classification (s := s) rfl
    have hstore : (mapRegisters s).env.store = s.env.store := by
      rw [mapRegisters_env_store, hs]
      exact Fin.ext h
    exact ⟨hstore, mapRegisters_env_keep rfl (Fin.ext h)⟩

/-! ### One advance -/

theorem envAdvance_of_hold {e : Env} (h : envDispatch e.offset e.strobe = .hold) : envAdvance e = e := by
  rw [envAdvance, h]

theorem envAdvance_of_decay {e : Env} (h : envDispatch e.offset e.strobe = .decay) : envAdvance e = envDecay e := by
  rw [envAdvance, h]

theorem envAdvance_of_grow {e : Env} (h : envDispatch e.offset e.strobe = .grow) : envAdvance e = envGrow e := by
  rw [envAdvance, h]

/-- GROW inside the ramp (42_envelope R255). -/
theorem envGrow_of_lt {e : Env} (h : e.step.val < 31) : envGrow e = { e with step := ⟨e.step.val + 1, by omega⟩ } := by
  have hstep : Fin.ofNat 32 (e.step.val + 1) = ⟨e.step.val + 1, by omega⟩ := Fin.ext (Nat.mod_eq_of_lt (by omega))
  rw [envGrow, if_neg (by omega), hstep]

/-- GROW past the top (42_envelope R255). -/
theorem envGrow_of_top {e : Env} (h : e.step.val = 31) : envGrow e = envReset { e with strobe := !e.strobe } :=
  if_pos (by omega)

/-- DECAY inside the ramp (42_envelope R256). -/
theorem envDecay_of_pos {e : Env} (h : 0 < e.step.val) : envDecay e = { e with step := ⟨e.step.val - 1, by omega⟩ } := by
  have hnext : ((e.step.val : Int) - 1).toNat = e.step.val - 1 := by omega
  have hstep : Fin.ofNat 32 (e.step.val - 1) = ⟨e.step.val - 1, by omega⟩ := Fin.ext (Nat.mod_eq_of_lt (by omega))
  rw [envDecay, if_neg (by omega), hnext, hstep]

/-- DECAY past the bottom (42_envelope R256). -/
theorem envDecay_of_bottom {e : Env} (h : e.step.val = 0) : envDecay e = envReset { e with strobe := !e.strobe } :=
  if_pos (by omega)

/-- Settles O27: the dispatch table and ENV_RESET at each class, GROW and DECAY inside the ramp and past its end. -/
theorem envelopeStepFunctions : Obligations.EnvelopeStepFunctions := by
  refine ⟨?_, ?_, ?_, fun e h => envGrow_of_lt h, fun e => envGrow_of_top, fun e => envDecay_of_pos,
    fun e => envDecay_of_bottom, ?_, ?_, ?_, ?_⟩
  · rintro e (h | h) hs <;> exact envAdvance_of_hold (by rw [h, hs, envDispatch])
  · rintro e (⟨h, hs⟩ | h | ⟨h, hs⟩ | ⟨h, hs⟩) <;> exact envAdvance_of_decay (by simp only [*, envDispatch])
  · rintro e (⟨h, hs⟩ | h | ⟨h, hs⟩ | ⟨h, hs⟩) <;> exact envAdvance_of_grow (by simp only [*, envDispatch])
  · rintro e (h | h) <;> rw [envReset, h]
  · rintro e (h | h) <;> rw [envReset, h]
  · intro e h
    rw [envReset, h]
  · intro e h
    rw [envReset, h]

/-! ### Ticks -/

/-- A tick whose incremented counter reaches the period advances the envelope (42_envelope R260). -/
theorem envTick_of_reached {e : Env} (h : e.period ≤ e.counter + 1) : envTick e = envAdvance { e with counter := 0 } :=
  if_pos h

/-- A tick before that only counts (42_envelope R260). -/
theorem envTick_of_lt {e : Env} (h : e.counter + 1 < e.period) : envTick e = { e with counter := e.counter + 1 } :=
  if_neg h.not_ge

/-- From counter 0, fewer ticks than the period only count (42_envelope R260). -/
theorem envTick_iterate_of_lt {e : Env} {n : Nat} (h0 : e.counter = 0) (hn : n < e.period) :
    envTick^[n] e = { e with counter := n } := by
  induction n with
  | zero => rw [Function.iterate_zero_apply, ← h0]
  | succ n ih => rw [Function.iterate_succ_apply', ih (by omega), envTick_of_lt hn]

/-- Settles O28: the two cases of the comparison; from counter 0 the ticks before the period-th one only count. -/
theorem envelopeTickAdvancesAtThePeriod : Obligations.EnvelopeTickAdvancesAtThePeriod := by
  refine ⟨fun e => ⟨envTick_of_reached, envTick_of_lt⟩, fun e n h0 hn => ⟨envTick_iterate_of_lt h0 hn, fun hp => ?_⟩⟩
  rw [Function.iterate_succ_apply', envTick_iterate_of_lt h0 hn, envTick_of_reached hp.ge, ← h0]

/-! ### The ramp of a half-cycle -/

theorem envAdvances_succ (n : Nat) (e : Env) : envAdvances (n + 1) e = envAdvance (envAdvances n e) :=
  Function.iterate_succ_apply' envAdvance n e

theorem envAdvances_add (m n : Nat) (e : Env) : envAdvances (m + n) e = envAdvances m (envAdvances n e) :=
  Function.iterate_add_apply envAdvance m n e

theorem envAdvances_of_hold {e : Env} (h : envDispatch e.offset e.strobe = .hold) (n : Nat) : envAdvances n e = e :=
  Function.iterate_fixed (envAdvance_of_hold h) n

/-- Advances that grow and stay inside the ramp (42_envelope R255). -/
theorem envAdvances_of_grow {e : Env} (h : envDispatch e.offset e.strobe = .grow) {n : Nat} (hn : e.step.val + n < 32) :
    envAdvances n e = { e with step := ⟨e.step.val + n, hn⟩ } := by
  induction n with
  | zero => rfl
  | succ n ih =>
    rw [envAdvances_succ, ih (by omega), envAdvance_of_grow (by exact h), envGrow_of_lt (by simp only; omega)]
    rfl

/-- Advances that decay and stay inside the ramp (42_envelope R256). -/
theorem envAdvances_of_decay {e : Env} (h : envDispatch e.offset e.strobe = .decay) {n : Nat} (hn : n ≤ e.step.val) :
    envAdvances n e = { e with step := ⟨e.step.val - n, by omega⟩ } := by
  induction n with
  | zero => rfl
  | succ n ih =>
    rw [envAdvances_succ, ih (by omega), envAdvance_of_decay (by exact h), envDecay_of_pos (by simp only; omega)]
    rfl

/-- The envelope is about to go through a whole ramp: up from 0 or down from 31. -/
def StartsRamp (e : Env) : Prop :=
  (envDispatch e.offset e.strobe = .grow ∧ e.step = 0) ∨ (envDispatch e.offset e.strobe = .decay ∧ e.step = 31)

/-- The level `n` advances into the ramp that starts at `l`, 0 or 31. -/
def rampLevel (l : Fin 32) (n : Nat) : Nat := if l = 0 then n else 31 - n

theorem envAdvances_of_startsRamp {e : Env} (h : StartsRamp e) {n : Nat} (hn : n < 32) :
    (envAdvances n e).step.val = rampLevel e.step n ∧ (envAdvances n e).strobe = e.strobe := by
  obtain ⟨hd, hs⟩ | ⟨hd, hs⟩ := h
  · rw [envAdvances_of_grow hd (by simpa [hs])]
    simp [hs, rampLevel]
  · rw [envAdvances_of_decay hd (by rw [hs]; exact Nat.le_of_lt_succ hn)]
    simp [hs, rampLevel]

/-- The 32nd advance of a whole ramp ends the half-cycle (42_envelope R255, R256). -/
theorem envAdvances_32_of_startsRamp {e : Env} (h : StartsRamp e) :
    envAdvances 32 e = envReset { e with strobe := !e.strobe } := by
  obtain ⟨hd, hs⟩ | ⟨hd, hs⟩ := h
  · rw [envAdvances_succ 31, envAdvances_of_grow hd (by simp [hs]), envAdvance_of_grow (by exact hd),
      envGrow_of_top (by simp [hs])]
    rfl
  · rw [envAdvances_succ 31, envAdvances_of_decay hd (by simp [hs]), envAdvance_of_decay (by exact hd),
      envDecay_of_bottom (by simp [hs])]
    rfl

/-! ### Half-cycles -/

/-- The start of the half-cycle of `e` with strobe `b` (42_envelope R258). -/
def halfCycle (e : Env) (b : Bool) : Env := envReset { e with strobe := b }

@[simp] theorem halfCycle_strobe (e : Env) (b : Bool) : (halfCycle e b).strobe = b := rfl

@[simp] theorem halfCycle_false_step (e : Env) : (halfCycle e false).step = restartLevel e.offset :=
  envReset_step_of_strobe rfl

/-- Outside classes 2 and 3 the second half-cycle starts at the transient (42_envelope R258). -/
theorem halfCycle_true_step {e : Env} (h2 : e.offset ≠ .class2) (h3 : e.offset ≠ .class3) :
    (halfCycle e true).step = transientLevel e.transient := by
  unfold halfCycle envReset
  cases h : e.offset with
  | class0 | class1 | class4 | class5 => rfl
  | class2 => exact absurd h h2
  | class3 => exact absurd h h3

theorem startsRamp_halfCycle_iff {e : Env} {b : Bool} :
    StartsRamp (halfCycle e b) ↔
      (envDispatch e.offset b = .grow ∧ (halfCycle e b).step = 0) ∨
        (envDispatch e.offset b = .decay ∧ (halfCycle e b).step = 31) := Iff.rfl

/-- The first half-cycle is a whole ramp in every class (42_envelope R254, R258). -/
theorem startsRamp_halfCycle_false (e : Env) : StartsRamp (halfCycle e false) := by
  rw [startsRamp_halfCycle_iff, halfCycle_false_step]
  cases e.offset <;> decide

/-- A half-cycle that is a whole ramp is followed by the other one after 32 advances. -/
theorem envAdvances_add_32_halfCycle {e : Env} {b : Bool} (h : StartsRamp (halfCycle e b)) (n : Nat) :
    envAdvances (n + 32) (halfCycle e b) = envAdvances n (halfCycle e !b) := by
  rw [envAdvances_add, envAdvances_32_of_startsRamp h]
  rfl

/-- Step and strobe from the restart up to the start of the second half-cycle (42_envelope R261). -/
theorem envAdvances_halfCycle_of_le_32 (e : Env) {n : Nat} (hn : n ≤ 32) :
    ((envAdvances n (halfCycle e false)).step.val =
      if n = 32 then (halfCycle e true).step.val else rampLevel (restartLevel e.offset) n) ∧
    (envAdvances n (halfCycle e false)).strobe = decide (n = 32) := by
  have hramp := startsRamp_halfCycle_false e
  obtain rfl | hne := eq_or_ne n 32
  · rw [envAdvances_add_32_halfCycle hramp 0]
    exact ⟨rfl, rfl⟩
  · simpa [hne] using envAdvances_of_startsRamp hramp (n := n) (by omega)

/-- The one-shot classes hold the transient from advance 32 on (42_envelope R257, R261). -/
theorem envAdvances_of_oneShot {e : Env} (h : e.offset = .class0 ∨ e.offset = .class1) (n : Nat) :
    ((envAdvances n (halfCycle e false)).step.val =
      if n ≤ 31 then rampLevel (restartLevel e.offset) n else (transientLevel e.transient).val) ∧
    (envAdvances n (halfCycle e false)).strobe = decide (32 ≤ n) := by
  obtain hn | hn := lt_or_ge n 32
  · simpa [hn.ne, hn.not_ge, Nat.le_of_lt_succ hn] using envAdvances_halfCycle_of_le_32 e hn.le
  · obtain ⟨k, rfl⟩ := Nat.exists_eq_add_of_le' hn
    have hhold : envDispatch (halfCycle e true).offset (halfCycle e true).strobe = .hold := by
      change envDispatch e.offset true = .hold
      obtain h | h := h <;> rw [h] <;> rfl
    rw [envAdvances_add_32_halfCycle (startsRamp_halfCycle_false e), Bool.not_false, envAdvances_of_hold hhold,
      halfCycle_true_step (by rcases h with h | h <;> simp [h]) (by rcases h with h | h <;> simp [h])]
    simp

/-- A second half-cycle that is a whole ramp makes a wave of period 64 (42_envelope R261, R262). -/
theorem envAdvances_of_twoRamps {e : Env} (h : StartsRamp (halfCycle e true)) (n : Nat) :
    ((envAdvances n (halfCycle e false)).step.val =
      if n % 64 < 32 then rampLevel (restartLevel e.offset) (n % 64)
      else rampLevel (halfCycle e true).step (n % 64 - 32)) ∧
    (envAdvances n (halfCycle e false)).strobe = decide (32 ≤ n % 64) := by
  have hfirst := startsRamp_halfCycle_false e
  have hperiod : Function.IsPeriodicPt envAdvance 64 (halfCycle e false) := by
    change envAdvances (32 + 32) _ = _
    rw [envAdvances_add_32_halfCycle hfirst]
    exact envAdvances_add_32_halfCycle h 0
  rw [envAdvances, ← hperiod.iterate_mod_apply n, ← envAdvances]
  obtain hlt | hge := lt_or_ge (n % 64) 32
  · simpa [hlt, hlt.not_ge] using envAdvances_of_startsRamp hfirst hlt
  · obtain ⟨k, hk⟩ := Nat.exists_eq_add_of_le' hge
    rw [hk, envAdvances_add_32_halfCycle hfirst]
    simpa using envAdvances_of_startsRamp h (n := k) (by omega)

/-- A second half-cycle that ends at its first advance makes a sawtooth of period 33 (42_envelope R262). -/
theorem envAdvances_of_shortSecond {e : Env} (h : envAdvance (halfCycle e true) = halfCycle e false) (n : Nat) :
    ((envAdvances n (halfCycle e false)).step.val =
      if n % 33 = 32 then (halfCycle e true).step.val else rampLevel (restartLevel e.offset) (n % 33)) ∧
    (envAdvances n (halfCycle e false)).strobe = decide (n % 33 = 32) := by
  have hperiod : Function.IsPeriodicPt envAdvance 33 (halfCycle e false) := by
    change envAdvances (1 + 32) _ = _
    rw [envAdvances_add_32_halfCycle (startsRamp_halfCycle_false e)]
    exact h
  rw [envAdvances, ← hperiod.iterate_mod_apply n, ← envAdvances]
  exact envAdvances_halfCycle_of_le_32 e (by omega)

/-- Classes 2 and 3 repeat one ramp (42_envelope R261). -/
theorem envAdvances_of_repeat {e : Env} (h : e.offset = .class2 ∨ e.offset = .class3) (n : Nat) :
    (envAdvances n (halfCycle e false)).step.val = rampLevel (restartLevel e.offset) (n % 32) ∧
    (envAdvances n (halfCycle e false)).strobe = decide (n / 32 % 2 = 1) := by
  have hstep : (halfCycle e true).step = restartLevel e.offset := by
    unfold halfCycle envReset
    obtain h | h := h <;> simp only [h, restartLevel]
  have hramp : StartsRamp (halfCycle e true) := by
    rw [startsRamp_halfCycle_iff, hstep]
    obtain h | h := h <;> rw [h] <;> decide
  obtain ⟨hval, hstrobe⟩ := envAdvances_of_twoRamps hramp n
  rw [hstep] at hval
  rw [hval, hstrobe]
  refine ⟨?_, decide_eq_decide.2 (by omega)⟩
  split <;> congr 1 <;> omega

/-! ### The traces of the sixteen shapes -/

section
variable {v : Fin 16} {e : Env} {c : EnvClass} (hv : v ≠ e.store)
include hv

/-- A restart is the start of the first half-cycle of the classified envelope (42_envelope R252, R259). -/
theorem envRestarted_eq_halfCycle {t : Option Transient} (hrow : envClassTable[v] = ⟨c, t⟩) :
    ∃ r : Env, envRestarted v e = halfCycle r false ∧ r.offset = c ∧ r.transient = t.getD e.transient := by
  refine ⟨{ envClassifyRow ⟨c, t⟩ v e with store := v, counter := 0 }, ?_, rfl, envClassifyRow_transient ⟨c, t⟩ v e⟩
  rw [envRestarted, hrow]
  exact envChange_of_shape_ne hv

/-- Classes 0 and 1 with the transient of the table's row (42_envelope R261). -/
theorem envRestarted_oneShot {t : Transient} (hrow : envClassTable[v] = ⟨c, some t⟩) (hc : c = .class0 ∨ c = .class1)
    (n : Nat) :
    ((envAdvances n (envRestarted v e)).step.val =
      if n ≤ 31 then rampLevel (restartLevel c) n else (transientLevel t).val) ∧
    (envAdvances n (envRestarted v e)).strobe = decide (32 ≤ n) := by
  obtain ⟨r, hr, rfl, ht⟩ := envRestarted_eq_halfCycle hv hrow
  rw [Option.getD_some] at ht
  rw [hr, ← ht]
  exact envAdvances_of_oneShot hc n

/-- Classes 2 and 3 (42_envelope R261). -/
theorem envRestarted_repeat (hrow : envClassTable[v] = ⟨c, none⟩) (hc : c = .class2 ∨ c = .class3) (n : Nat) :
    (envAdvances n (envRestarted v e)).step.val = rampLevel (restartLevel c) (n % 32) ∧
    (envAdvances n (envRestarted v e)).strobe = decide (n / 32 % 2 = 1) := by
  obtain ⟨r, hr, rfl, -⟩ := envRestarted_eq_halfCycle hv hrow
  rw [hr]
  exact envAdvances_of_repeat hc n

/-- Classes 4 and 5 start their second half-cycle at the transient that the envelope had (42_envelope R253, R262). -/
theorem envRestarted_eq_halfCycle_retained (hrow : envClassTable[v] = ⟨c, none⟩) (hc : c = .class4 ∨ c = .class5) :
    ∃ r : Env, envRestarted v e = halfCycle r false ∧ r.offset = c ∧
      (halfCycle r true).step = transientLevel e.transient := by
  obtain ⟨r, hr, rfl, ht⟩ := envRestarted_eq_halfCycle hv hrow
  rw [Option.getD_none] at ht
  refine ⟨r, hr, rfl, ht ▸ halfCycle_true_step ?_ ?_⟩ <;> rcases hc with h | h <;> simp [h]

/-- Classes 4 and 5 up to the start of the second half-cycle (42_envelope R261). -/
theorem envRestarted_firstHalf (hrow : envClassTable[v] = ⟨c, none⟩) (hc : c = .class4 ∨ c = .class5) {n : Nat}
    (hn : n ≤ 32) :
    ((envAdvances n (envRestarted v e)).step.val =
      if n = 32 then (transientLevel e.transient).val else rampLevel (restartLevel c) n) ∧
    (envAdvances n (envRestarted v e)).strobe = decide (n = 32) := by
  obtain ⟨r, hr, rfl, hstep⟩ := envRestarted_eq_halfCycle_retained hv hrow hc
  rw [hr, ← hstep]
  exact envAdvances_halfCycle_of_le_32 r hn

/-- The transient at the far end from the first ramp's last level: the second half-cycle is a whole ramp back. -/
theorem envRestarted_triangle (hrow : envClassTable[v] = ⟨c, none⟩)
    (hc : (c = .class4 ∧ e.transient = .low) ∨ (c = .class5 ∧ e.transient = .high)) (n : Nat) :
    ((envAdvances n (envRestarted v e)).step.val =
      if n % 64 < 32 then rampLevel (restartLevel c) (n % 64)
      else rampLevel (transientLevel e.transient) (n % 64 - 32)) ∧
    (envAdvances n (envRestarted v e)).strobe = decide (32 ≤ n % 64) := by
  obtain ⟨r, hr, rfl, hstep⟩ := envRestarted_eq_halfCycle_retained hv hrow (hc.imp And.left And.left)
  have hramp : StartsRamp (halfCycle r true) := by
    rw [startsRamp_halfCycle_iff, hstep]
    obtain ⟨ho, ht⟩ | ⟨ho, ht⟩ := hc <;> rw [ho, ht] <;> decide
  rw [hr, ← hstep]
  exact envAdvances_of_twoRamps hramp n

/-- The transient already at the end of the second ramp: the second half-cycle is one advance long. -/
theorem envRestarted_sawtooth (hrow : envClassTable[v] = ⟨c, none⟩)
    (hc : (c = .class4 ∧ e.transient = .high) ∨ (c = .class5 ∧ e.transient = .low)) (n : Nat) :
    ((envAdvances n (envRestarted v e)).step.val =
      if n % 33 = 32 then (transientLevel e.transient).val else rampLevel (restartLevel c) (n % 33)) ∧
    (envAdvances n (envRestarted v e)).strobe = decide (n % 33 = 32) := by
  obtain ⟨r, hr, rfl, hstep⟩ := envRestarted_eq_halfCycle_retained hv hrow (hc.imp And.left And.left)
  have hshort : envAdvance (halfCycle r true) = halfCycle r false := by
    obtain ⟨ho, ht⟩ | ⟨ho, ht⟩ := hc
    · rw [envAdvance_of_grow (congrArg (envDispatch · true) ho), envGrow_of_top (by rw [hstep, ht]; rfl)]
      rfl
    · rw [envAdvance_of_decay (congrArg (envDispatch · true) ho), envDecay_of_bottom (by rw [hstep, ht]; rfl)]
      rfl
  rw [hr, ← hstep]
  exact envAdvances_of_shortSecond hshort n

end

/-- Settles O29: by the shape's row, a one-shot ramp, a repeated one, or the first half-cycle alone. -/
theorem envelopeShapeTraces : Obligations.EnvelopeShapeTraces := by
  intro v e n hv
  obtain ⟨h0, h11, h4, h13, h8, h12, h10, h14⟩ := envClassTable_rows v
  exact ⟨fun h => envRestarted_oneShot hv (h0 h) (.inl rfl) n, fun h => envRestarted_oneShot hv (h11 h) (.inl rfl) n,
    fun h => envRestarted_oneShot hv (h4 h) (.inr rfl) n, fun h => envRestarted_oneShot hv (h13 h) (.inr rfl) n,
    fun h => envRestarted_repeat hv (h8 h) (.inl rfl) n, fun h => envRestarted_repeat hv (h12 h) (.inr rfl) n,
    fun h => envRestarted_firstHalf hv (h10 h) (.inl rfl), fun h => envRestarted_firstHalf hv (h14 h) (.inr rfl)⟩

/-- Settles O30: the retained transient makes the second half-cycle a whole ramp or a single advance. -/
theorem envelopeHistoryDependentTraces : Obligations.EnvelopeHistoryDependentTraces := by
  refine fun e n => ⟨fun hv ht => ?_, fun hv ht => ?_, fun hv ht => ?_, fun hv ht => ?_⟩
  · simpa [ht, rampLevel, restartLevel, transientLevel] using envRestarted_triangle hv.symm rfl (.inl ⟨rfl, ht⟩) n
  · simpa [ht, rampLevel, restartLevel, transientLevel] using envRestarted_sawtooth hv.symm rfl (.inl ⟨rfl, ht⟩) n
  · obtain ⟨hstep, hstrobe⟩ := envRestarted_triangle hv.symm rfl (.inr ⟨rfl, ht⟩) n
    refine ⟨?_, hstrobe⟩
    rw [hstep, ht]
    change (if n % 64 < 32 then n % 64 else 31 - (n % 64 - 32)) = _
    split_ifs <;> omega
  · simpa [ht, rampLevel, restartLevel, transientLevel] using envRestarted_sawtooth hv.symm rfl (.inr ⟨rfl, ht⟩) n

end Sys2Proof.Machine

/-! SUPPORT. The mixer (43_mixer_dac): a finite datum is the rounding of its own magnitude, and so the exact product by a gate bit
(R294, 00_scope R16); the clamped pan as a case split (R292); the mixer tick (R291 to R295). -/

namespace Sys2Proof.Binary64

/-! ### Rounding an exact magnitude -/

/-- A datum is its sign bit, its exponent field and its fraction field. -/
theorem eq_ofSignBits_fields (a : Binary64) : a = ofSignBits a.sign (a.expField * 2 ^ 52 + a.fracField) := by
  have hfields : a.expField * 2 ^ 52 + a.fracField = a.bits.toNat % 2 ^ 63 := by
    simp only [expField, fracField]
    omega
  have hlt := a.bits.isLt
  rw [hfields]
  refine congrArg Binary64.mk (BitVec.eq_of_toNat_eq ?_)
  simp only [sign, BitVec.msb_eq_decide, BitVec.toNat_ofNat, decide_eq_true_eq]
  split <;> omega

/-- A significand with its leading one fixes the spacing. -/
theorem spacing_significand_mul {r : Nat} (k : Nat) (hlow : 2 ^ 52 ≤ r) (hhigh : r < 2 ^ 53) : spacing (r * 2 ^ k) = k := by
  have hle : 2 ^ (52 + k) ≤ r * 2 ^ k := by
    rw [pow_add]
    exact Nat.mul_le_mul_right _ hlow
  have hlt : r * 2 ^ k < 2 ^ (52 + k + 1) := by
    rw [show 52 + k + 1 = 53 + k by omega, pow_add]
    exact Nat.mul_lt_mul_of_pos_right hhigh (by positivity)
  have hlog : Nat.log2 (r * 2 ^ k) = 52 + k := (Nat.log2_eq_iff (by have := Nat.two_pow_pos (52 + k); omega)).2 ⟨hle, hlt⟩
  unfold spacing
  split
  · obtain rfl | hk := Nat.eq_zero_or_pos k
    · rfl
    · have := Nat.mul_le_mul hlow (Nat.pow_le_pow_right Nat.two_pos hk)
      omega
  · omega

/-- The magnitude of a datum, given as a fraction, rounds to the datum's own low bits. -/
theorem roundBits_mag_mul (a : Binary64) {d : Nat} (hd : 0 < d) :
    roundBits (a.mag * d) d = a.expField * 2 ^ 52 + a.fracField := by
  have hfrac := a.fracField_lt
  rw [roundBits_eq, significand, Nat.mul_div_cancel _ hd, mag]
  split
  · rename_i he
    have hs : spacing a.fracField = 0 := if_pos (by omega)
    rw [hs, pow_zero, mul_one, divNearestEven_mul _ hd, he]
  · rw [pow2_eq, spacing_significand_mul _ (by omega) (by omega), mul_assoc, mul_comm (2 ^ _) d,
      divNearestEven_mul _ (by positivity)]
    omega

/-- Rounding is exact at a finite datum, a zero's sign included (00_scope R20). -/
theorem ofMag_mag_mul {a : Binary64} (ha : a.isFinite = true) {d : Nat} (hd : 0 < d) : ofMag a.sign (a.mag * d) d = a := by
  have hexp : a.expField ≠ 2047 := by simpa [isFinite] using ha
  have hexp_lt := a.expField_lt
  have hfrac := a.fracField_lt
  rw [ofMag_eq, roundBits_mag_mul a hd, min_eq_left (by omega), ← eq_ofSignBits_fields]

/-! ### The products by 1 and by 0 -/

theorem int_one_sign : (binary64.int 1).sign = false := by decide +kernel

theorem int_one_mag : (binary64.int 1).mag = pow2 1074 := by decide +kernel

theorem int_zero_isFinite : (binary64.int 0).isFinite = true := by decide +kernel

theorem int_zero_mag : (binary64.int 0).mag = 0 := by decide +kernel

theorem int_one_mul {a : Binary64} (ha : a.isFinite = true) : mul (binary64.int 1) a = a := by
  rw [mul_of_isFinite one_isFinite ha, int_one_sign, int_one_mag, Bool.false_bne, mul_comm (pow2 _),
    ofMag_mag_mul ha (by rw [pow2_eq]; positivity)]

theorem toRat_of_mag_eq_zero {a : Binary64} (h : a.mag = 0) : a.toRat = 0 := by simp [toRat, units, h]

/-- A zero of either sign: the sign of the product is the level's. -/
theorem int_zero_mul_toRat {a : Binary64} (ha : a.isFinite = true) : (mul (binary64.int 0) a).toRat = 0 := by
  rw [mul_of_isFinite int_zero_isFinite ha, int_zero_mag, zero_mul]
  exact toRat_of_mag_eq_zero (ofMag_zero_mag _ _)

end Sys2Proof.Binary64

namespace Sys2Proof.Machine

/-! ### The gate -/

/-- The gate closes exactly where an enabled source is 0 (43_mixer_dac R294). -/
theorem gateBit_eq_false_iff (t toff n noff : Bool) :
    gateBit t toff n noff = false ↔ (t = false ∧ toff = false) ∨ (n = false ∧ noff = false) := by
  rw [gateBit, Bool.and_eq_false_iff, Bool.or_eq_false_iff, Bool.or_eq_false_iff]

theorem channelValue_open {level : Binary64} (h : level.isFinite = true) : channelValue binary64 true level = level :=
  Binary64.int_one_mul h

theorem channelValue_closed_toRat {level : Binary64} (h : level.isFinite = true) :
    (channelValue binary64 false level).toRat = 0 := Binary64.int_zero_mul_toRat h

/-- Settles O31: 1.0 times a datum is the rounding of the datum's own magnitude, which is exact. -/
theorem gateMultipliesExactly : Obligations.GateMultipliesExactly :=
  ⟨gateBit_eq_false_iff, fun _ h => ⟨channelValue_open h, channelValue_closed_toRat h⟩⟩

/-! ### The clamped pan -/

theorem panLow_isNaN : (binary64.ratio 1 10).isNaN = false := by decide +kernel

theorem panHigh_isNaN : (binary64.ratio 9 10).isNaN = false := by decide +kernel

theorem panLow_le_panHigh : Binary64.le (binary64.ratio 1 10) (binary64.ratio 9 10) = true := by decide +kernel

theorem panHigh_not_lt_panLow : Binary64.lt (binary64.ratio 9 10) (binary64.ratio 1 10) = false := by decide +kernel

/-- `min(max(PAN, 0.1), 0.9)` as a case split, where 0.9 is not below 0.1 (43_mixer_dac R292). -/
theorem panClamp_eq_of_not_lt {α : Type} {A : Arith α} (h : A.lt (A.ratio 9 10) (A.ratio 1 10) = false) (pan : α) :
    panClamp A pan =
      if A.lt pan (A.ratio 1 10) then A.ratio 1 10
      else if A.lt (A.ratio 9 10) pan then A.ratio 9 10
      else pan := by
  unfold panClamp Arith.min Arith.max
  by_cases hlow : A.lt pan (A.ratio 1 10) = true
  · simp only [if_pos hlow, h, Bool.false_eq_true, if_false]
  · simp only [if_neg hlow]

/-- In binary64; a NaN PAN, which compares with nothing, is kept. -/
theorem panClamp_binary64 (pan : Binary64) :
    panClamp binary64 pan =
      if Binary64.lt pan (binary64.ratio 1 10) then binary64.ratio 1 10
      else if Binary64.lt (binary64.ratio 9 10) pan then binary64.ratio 9 10
      else pan := panClamp_eq_of_not_lt panHigh_not_lt_panLow pan

/-- The pan used at mix time lies in [0.1, 0.9] (10_state R71). -/
theorem panClamp_range {pan : Binary64} (h : pan.isNaN = false) :
    Binary64.le (binary64.ratio 1 10) (panClamp binary64 pan) = true ∧
      Binary64.le (panClamp binary64 pan) (binary64.ratio 9 10) = true := by
  rw [panClamp_binary64]
  split
  · exact ⟨Binary64.le_eq_true_iff.2 ⟨panLow_isNaN, panLow_isNaN, le_rfl⟩, panLow_le_panHigh⟩
  split
  · exact ⟨panLow_le_panHigh, Binary64.le_eq_true_iff.2 ⟨panHigh_isNaN, panHigh_isNaN, le_rfl⟩⟩
  · exact ⟨Binary64.le_of_not_lt h panLow_isNaN (Bool.eq_false_iff.2 ‹_›),
      Binary64.le_of_not_lt panHigh_isNaN h (Bool.eq_false_iff.2 ‹_›)⟩

/-! ### The mixer tick's raw pair -/

theorem dacIndex_eq (c : Chan) (e : Fin 32) :
    dacIndex c e = if c.envFlag = false then e else ⟨2 * c.volume.val + 1, by omega⟩ := by
  simp only [dacIndex, mul_comm]

/-- The value a channel contributes on a tick: its gate and DAC level once the noise channel, the envelope and its own
oscillator have advanced (43_mixer_dac R293). -/
def tickLevel (s : State) (i : Fin 3) : Binary64 :=
  channelLevel s.cfg s.chan[i] (toneTick s.tone[i]) (noisePort (noiseTick s.cfg.lfsrFbPos s.noise)) (envTick s.env).step

/-- The raw pair: the channels' contributions, added in the order A, B, C to 0.0 (43_mixer_dac R295). -/
theorem mixerTick_sides (s : State) :
    (mixerTick s).2 =
      mixAdd binary64 (mixAdd binary64 (mixAdd binary64 { left := Binary64.zero, right := Binary64.zero }
        (tickLevel s 0) s.cfg.pan[0]) (tickLevel s 1) s.cfg.pan[1]) (tickLevel s 2) s.cfg.pan[2] := rfl

theorem tickLevel_eq (s : State) (i : Fin 3) :
    tickLevel s i =
      Binary64.mul
        (binary64.int (((toneTick s.tone[i]).port || s.chan[i].toneOff) &&
          ((noiseTick s.cfg.lfsrFbPos s.noise).lfsr.getLsbD 0 || s.chan[i].noiseOff)).toNat)
        s.cfg.dac[if s.chan[i].envFlag = false then (envTick s.env).step else ⟨2 * s.chan[i].volume.val + 1, by omega⟩] := by
  simp only [tickLevel, channelLevel, dacIndex_eq]
  rfl

/-- Settles O32: the raw pair by the clamped pan and the channels' values; the rest is the tick's frame. -/
theorem mixerTickFollowsItsPseudocode : Obligations.MixerTickFollowsItsPseudocode := by
  intro s n e p gate index v l r
  have hv (i : Fin 3) : tickLevel s i = v i := tickLevel_eq s i
  have hp (i : Fin 3) : panClamp binary64 s.cfg.pan[i] = p i := panClamp_binary64 _
  have hsides : (mixerTick s).2 =
      { left := Binary64.add (Binary64.add (Binary64.add Binary64.zero (l 0)) (l 1)) (l 2)
        right := Binary64.add (Binary64.add (Binary64.add Binary64.zero (r 0)) (r 1)) (r 2) } := by
    simp only [l, r, ← hp, ← hv]
    exact mixerTick_sides s
  have hframe := mixerTick_frame s
  exact ⟨congrArg Sides.left hsides, congrArg Sides.right hsides, mixerTick_noise s, mixerTick_env s, mixerTick_tone s,
    mixerTick_x s, mixerTick_chan s, hframe.cfg, mixerTick_clock s, hframe.frame, mixerTick_interp s, hframe.fir, hframe.bias,
    hframe.refused, hframe.inFrameRoutine, hframe.inputs, hframe.response, fun i h => hp i ▸ panClamp_range h⟩

end Sys2Proof.Machine

/-! SUPPORT. The accumulators and STEP (44_clock_step): exact arithmetic as the operations of ℚ, one advance of each accumulator in
it, the number of ticks (R328) and the frame event's interval (R329); the oversample loop as an iteration (R330); one tick and the
two parts of STEP as whole states (R321 to R327). -/

namespace Sys2Proof.Machine

/-! ### Exact arithmetic -/

@[simp] theorem exactArith_int (k : Int) : exactArith.int k = k := by simp [Arith.int, exactArith]

@[simp] theorem exactArith_add (a b : ℚ) : exactArith.add a b = a + b := rfl

@[simp] theorem exactArith_sub (a b : ℚ) : exactArith.sub a b = a - b := rfl

@[simp] theorem exactArith_lt (a b : ℚ) : exactArith.lt a b = decide (a < b) := rfl

/-- One advance of the clock accumulator in exact arithmetic (44_clock_step R324). -/
theorem clockAdvance_exact_cases (c st : ℚ) :
    (1 < c + st ∧ clockAdvance exactArith c st = (c + st - 1, true)) ∨
    (c + st ≤ 1 ∧ clockAdvance exactArith c st = (c + st, false)) := by
  obtain h | h := lt_or_ge 1 (c + st)
  · exact .inl ⟨h, by simpa using clockAdvance_of_lt (A := exactArith) (by simpa using h)⟩
  · exact .inr ⟨h, by simpa using clockAdvance_of_not_lt (A := exactArith) (by simpa using h)⟩

/-- One advance of the frame accumulator in exact arithmetic, the remainder dropped (44_clock_step R325). -/
theorem frameAdvance_drop_exact_cases (c fs : ℚ) :
    (1 < c + fs ∧ frameAdvance exactArith .drop c fs = (0, true)) ∨
    (c + fs ≤ 1 ∧ frameAdvance exactArith .drop c fs = (c + fs, false)) := by
  obtain h | h := lt_or_ge 1 (c + fs)
  · exact .inl ⟨h, by simpa using frameAdvance_drop_of_lt (A := exactArith) (by simpa using h)⟩
  · exact .inr ⟨h, by simpa using frameAdvance_of_not_lt (A := exactArith) (rem := .drop) (by simpa using h)⟩

/-! ### The ranges of the accumulators -/

theorem clockAdvance_exact_range {c st : ℚ} (hc0 : 0 ≤ c) (hc1 : c ≤ 1) (hs0 : 0 ≤ st) (hs1 : st ≤ 1) :
    0 ≤ (clockAdvance exactArith c st).1 ∧ (clockAdvance exactArith c st).1 ≤ 1 := by
  obtain ⟨h, he⟩ | ⟨h, he⟩ := clockAdvance_exact_cases c st <;> rw [he] <;> constructor <;> dsimp only <;> linarith

theorem frameAdvance_drop_exact_range {c fs : ℚ} (hc : 0 ≤ c) (hs : 0 ≤ fs) :
    0 ≤ (frameAdvance exactArith .drop c fs).1 ∧ (frameAdvance exactArith .drop c fs).1 ≤ 1 := by
  obtain ⟨-, he⟩ | ⟨h, he⟩ := frameAdvance_drop_exact_cases c fs <;> rw [he]
  · norm_num
  · exact ⟨add_nonneg hc hs, h⟩

/-- Settles O34: exactly by the two cases of an advance; in binary64 because 0, 1 and 2 are data, which rounding does not pass. -/
theorem accumulatorsStayInRange : Obligations.AccumulatorsStayInRange := by
  refine ⟨fun _ _ => clockAdvance_exact_range, fun _ _ hc0 _ hs => frameAdvance_drop_exact_range hc0 hs,
    fun _ _ hc0 hc1 hs0 hs1 => clockAdvance_inUnit ⟨hc0, hc1⟩ ⟨hs0, hs1⟩, fun c fs hc0 hc1 hs => ?_⟩
  have hc : FrameRange .drop c := ⟨hc0, fun _ => hc1⟩
  obtain ⟨h0, h1⟩ := frameAdvance_range hc hs
  exact ⟨h0, h1 rfl⟩

/-! ### The number of ticks -/

/-- An advance moves the increment into the accumulator and the ticks, and loses nothing (44_clock_step R324). -/
theorem clockAdvance_exact_conserves (c st : ℚ) :
    (clockAdvance exactArith c st).1 + ((clockAdvance exactArith c st).2.toNat : ℚ) = c + st := by
  obtain ⟨-, he⟩ | ⟨-, he⟩ := clockAdvance_exact_cases c st <;> simp [he]

theorem clockRun_exact_conserves (st : ℚ) (k : Nat) (c : ℚ) :
    (clockRun exactArith st k c).1 + ((clockRun exactArith st k c).2 : ℚ) = c + k * st := by
  induction k generalizing c with
  | zero => simp [clockRun]
  | succ k ih =>
    have hrest := ih (clockAdvance exactArith c st).1
    have hfirst := clockAdvance_exact_conserves c st
    simp only [clockRun]
    push_cast
    linarith

theorem clockRun_exact_range {st : ℚ} (hs0 : 0 ≤ st) (hs1 : st ≤ 1) (k : Nat) {c : ℚ} (hc0 : 0 ≤ c) (hc1 : c ≤ 1) :
    0 ≤ (clockRun exactArith st k c).1 ∧ (clockRun exactArith st k c).1 ≤ 1 := by
  induction k generalizing c with
  | zero => exact ⟨hc0, hc1⟩
  | succ k ih =>
    obtain ⟨h0, h1⟩ := clockAdvance_exact_range hc0 hc1 hs0 hs1
    exact ih h0 h1

/-- Settles O35: nothing is lost, and what has not ticked yet is an accumulator in [0, 1]. -/
theorem tickCountBounds : Obligations.TickCountBounds := by
  intro cs k hs0 hs1
  have hsum := clockRun_exact_conserves cs k 0
  obtain ⟨h0, h1⟩ := clockRun_exact_range hs0 hs1 k le_rfl zero_le_one
  refine ⟨?_, ?_, ?_⟩ <;> linarith

/-! ### The interval of the frame event -/

/-- `⌊1/fs⌋ + 1` is the least number of increments whose sum is above 1. -/
theorem one_lt_nat_mul_iff {fs : ℚ} (hfs : 0 < fs) (i : Nat) : 1 < (i : ℚ) * fs ↔ ⌊1 / fs⌋₊ + 1 ≤ i := by
  rw [Nat.add_one_le_iff, Nat.floor_lt (by positivity), div_lt_iff₀ hfs]

/-- The accumulator holds the increments since the last event: from `i` of them, fewer than an interval, the event comes at the
calls that complete one. -/
theorem frameRun_drop_exact {fs : ℚ} (hfs : 0 < fs) {n i j : Nat} (hi : i < ⌊1 / fs⌋₊ + 1) (hj : j < n) :
    (frameRun exactArith .drop fs n (i * fs))[j]? = some true ↔ (⌊1 / fs⌋₊ + 1) ∣ i + (j + 1) := by
  induction n generalizing i j with
  | zero => omega
  | succ n ih =>
    have hsum : (i : ℚ) * fs + fs = (i + 1 : Nat) * fs := by push_cast; ring
    simp only [frameRun]
    obtain ⟨h, he⟩ | ⟨h, he⟩ := frameAdvance_drop_exact_cases (i * fs) fs <;> rw [he]
    · rw [hsum, one_lt_nat_mul_iff hfs] at h
      have hlast : i + 1 = ⌊1 / fs⌋₊ + 1 := by omega
      cases j with
      | zero => simp [hlast]
      | succ j =>
        have hrest := ih (i := 0) (Nat.succ_pos _) (Nat.lt_of_succ_lt_succ hj)
        rw [Nat.cast_zero, zero_mul, zero_add] at hrest
        rw [List.getElem?_cons_succ, hrest, show i + (j + 1 + 1) = ⌊1 / fs⌋₊ + 1 + (j + 1) by omega, Nat.dvd_add_self_left]
    · rw [hsum, ← not_lt, one_lt_nat_mul_iff hfs, not_le] at h
      cases j with
      | zero => simpa using Nat.not_dvd_of_pos_of_lt (Nat.succ_pos i) h
      | succ j =>
        rw [List.getElem?_cons_succ, hsum, ih h (Nat.lt_of_succ_lt_succ hj), show i + (j + 1 + 1) = i + 1 + (j + 1) by omega]

/-- Settles O36: construction leaves the accumulator without an increment. -/
theorem frameEventInterval : Obligations.FrameEventInterval := by
  intro fs n j hfs _ hj
  simpa using frameRun_drop_exact hfs (i := 0) (Nat.succ_pos _) hj

/-! ### One oversample iteration, and the loop -/

/-- CHIP_TICK as a whole state: the mixer tick after `map()`, and its raw pair pushed into both interpolators (44_clock_step
R327). -/
theorem chipTick_eq (s : State) :
    chipTick s =
      { (mixerTick (mapRegisters s)).1 with
        interp :=
          { left := interpPush s.interp.left (mixerTick (mapRegisters s)).2.left
            right := interpPush s.interp.right (mixerTick (mapRegisters s)).2.right } } := by
  rw [← chipTick_interp]
  rfl

/-- Settles O33: the two cases of the clock's advance, with the chip tick as a whole state. -/
theorem clockAdvanceTicksAboveOne : Obligations.ClockAdvanceTicksAboveOne := by
  intro s c
  refine ⟨fun h => ?_, fun h => ?_⟩
  · have ha : clockAdvance binary64 s.clock.cycle s.clock.step = (c, false) := clockAdvance_of_not_lt h
    obtain ⟨-, he⟩ | ⟨ht, -⟩ := clockIteration_cases s
    · rw [he, ha]
    · rw [ha] at ht
      cases ht
  · have ha : clockAdvance binary64 s.clock.cycle s.clock.step = (Binary64.sub c (binary64.int 1), true) :=
      clockAdvance_of_lt h
    obtain ⟨ht, -⟩ | ⟨-, he⟩ := clockIteration_cases s
    · rw [ha] at ht
      cases ht
    · rw [he, ha, chipTick_eq]
      rfl

/-- The loop runs its iterations one after the other (44_clock_step R326). -/
theorem oversample_fst (k : Nat) (s : State) : (oversample k s).1 = clockIteration^[k] s := by
  induction k generalizing s with
  | zero => rfl
  | succ k ih => exact ih (clockIteration s)

/-- The pair of iteration `j` is taken from the state after it (44_clock_step R330). -/
theorem oversample_getElem? {k j : Nat} (h : j < k) (s : State) :
    (oversample k s).2[j]? = some (interpSample (clockIteration^[j + 1] s)) := by
  induction k generalizing j s with
  | zero => omega
  | succ k ih =>
    cases j with
    | zero => rfl
    | succ j => exact ih (Nat.lt_of_succ_lt_succ h) (clockIteration s)

/-- Without a tick the interpolators keep their histories (44_clock_step R330). -/
theorem interpSample_clockIteration {s : State} (h : (clockAdvance binary64 s.clock.cycle s.clock.step).2 = false) :
    interpSample (clockIteration s) = interpSample s := by
  obtain ⟨-, he⟩ | ⟨ht, -⟩ := clockIteration_cases s
  · rw [he]
    rfl
  · rw [h] at ht
    cases ht

/-- Settles O38: the loop is its iterations, and only a tick writes the interpolators. -/
theorem oversampleLoopSamples : Obligations.OversampleLoopSamples :=
  ⟨fun k s => ⟨oversample_fst k s, oversample_length k s, fun _ hj => oversample_getElem? hj s⟩, fun _ => rfl,
    fun _ => interpSample_clockIteration⟩

/-! ### The two parts of STEP -/

/-- The rest of STEP as a whole state: the loop writes neither filter, so that they filter from the state before it (44_clock_step
R326). -/
theorem stepFinish_eq (s : State) :
    stepFinish s =
      let r := oversample s.cfg.m s
      let l := filterChannel s.cfg s.fir.left s.bias.left (r.2.map Sides.left)
      let q := filterChannel s.cfg s.fir.right s.bias.right (r.2.map Sides.right)
      { r.1 with
        fir := { left := l.1.1, right := q.1.1 }
        bias := { left := l.1.2, right := q.1.2 }
        response := .sample l.2 q.2 } := by
  have hframe := oversample_frame s.cfg.m s
  rw [← hframe.fir, ← hframe.bias]
  rfl

/-- FRAME_ADVANCE in one equation: the event is raised where the sum is above 1 (44_clock_step R325). -/
theorem frameAdvance_eq {α : Type} (A : Arith α) (rem : FrameRemainder) (cycle fs : α) :
    frameAdvance A rem cycle fs =
      (if A.lt (A.int 1) (A.add cycle fs) then
        match rem with
        | .drop => A.int 0
        | .keep => A.sub (A.add cycle fs) (A.int 1)
      else A.add cycle fs, A.lt (A.int 1) (A.add cycle fs)) := by
  cases h : A.lt (A.int 1) (A.add cycle fs) with
  | true =>
    cases rem with
    | drop => exact frameAdvance_drop_of_lt h
    | keep => exact frameAdvance_keep_of_lt h
  | false => exact frameAdvance_of_not_lt h

/-- Settles O37: the three cases of STEP, with its start and its end as whole states. -/
theorem stepFollowsItsPseudocode : Obligations.StepFollowsItsPseudocode := by
  intro s cs c fires cleared s1 r fl fr bl br
  have hadvance : frameAdvance binary64 s.cfg.frameRemainder s.frame.cycle (frameStepOf binary64 s.cfg.frameFreq s.cfg.outRate) =
      (if fires then cleared else c, fires) := frameAdvance_eq ..
  have hbegin : stepBegin s = (s1, fires) := by
    unfold stepBegin
    dsimp only
    rw [hadvance]
    rfl
  have hfinish : stepFinish s1 =
      { r.1 with
        fir := { left := fl.1, right := fr.1 }
        bias := { left := bl.1, right := br.1 }
        response := .sample bl.2 br.2 } := stepFinish_eq s1
  have hcases := execStep_cases s
  rw [hbegin, hfinish] at hcases
  obtain ⟨hin, he⟩ | ⟨hin, (hf : fires = true), hr, he⟩ | ⟨hin, hn, he⟩ := hcases
  · exact ⟨fun _ => he, fun h => by simp [hin] at h, fun h => by simp [hin] at h⟩
  · exact ⟨fun h => by simp [hin] at h, fun _ _ _ => he, fun _ h => by simp [hf, hr] at h⟩
  · exact ⟨fun h => by simp [hin] at h, fun _ h h' => by simp [h, h'] at hn, fun _ _ => he⟩

end Sys2Proof.Machine

/-! SUPPORT. The interpolator (45_interpolator): in exact arithmetic each form is a cubic in the phase, whose coefficients are read off
the history; its end points, its value at phase 1/2 (R365), and the flat history (R366). -/

namespace Sys2Proof.Machine

/-! ### Each form as a cubic in exact arithmetic -/

@[simp] theorem exactArith_ratio (n : Int) (d : Nat) : exactArith.ratio n d = n / d := rfl

@[simp] theorem exactArith_mul (a b : ℚ) : exactArith.mul a b = a * b := rfl

theorem cubic_exact (a0 a1 a2 a3 mu : ℚ) :
    cubic exactArith a0 a1 a2 a3 mu = a0 * mu ^ 3 + a1 * mu ^ 2 + a2 * mu + a3 := by
  simp only [cubic, exactArith_add, exactArith_mul]
  ring

/-- The Catmull-Rom form in exact arithmetic (45_interpolator R363). -/
theorem interpEval_catmullRom_exact (ip : Interp ℚ) (mu : ℚ) :
    interpEval exactArith .catmullRom ip mu =
      (-ip.h0 + 3 * ip.h1 - 3 * ip.h2 + ip.h3) / 2 * mu ^ 3 + (2 * ip.h0 - 5 * ip.h1 + 4 * ip.h2 - ip.h3) / 2 * mu ^ 2 +
        (ip.h2 - ip.h0) / 2 * mu + ip.h1 := by
  simp only [interpEval, evalCatmullRom, cubic_exact, exactArith_add, exactArith_sub, exactArith_mul, exactArith_ratio,
    exactArith_int]
  push_cast
  ring

/-- The Bourke form in exact arithmetic (45_interpolator R364). -/
theorem interpEval_bourke_exact (ip : Interp ℚ) (mu : ℚ) :
    interpEval exactArith .bourke ip mu =
      (-ip.h0 + ip.h1 - ip.h2 + ip.h3) * mu ^ 3 + (2 * ip.h0 - 2 * ip.h1 + ip.h2 - ip.h3) * mu ^ 2 + (ip.h2 - ip.h0) * mu +
        ip.h1 := by
  simp only [interpEval, evalBourke, cubic_exact, exactArith_add, exactArith_sub]
  ring

/-! ### The phases 0, 1 and 1/2 -/

theorem interpEval_catmullRom_exact_zero (ip : Interp ℚ) : interpEval exactArith .catmullRom ip 0 = ip.h1 := by
  rw [interpEval_catmullRom_exact]
  ring

theorem interpEval_catmullRom_exact_one (ip : Interp ℚ) : interpEval exactArith .catmullRom ip 1 = ip.h2 := by
  rw [interpEval_catmullRom_exact]
  ring

/-- The four-tap filter of the Catmull-Rom form (45_interpolator R365). -/
theorem interpEval_catmullRom_exact_half (ip : Interp ℚ) :
    interpEval exactArith .catmullRom ip (1 / 2) = (-ip.h0 + 9 * ip.h1 + 9 * ip.h2 - ip.h3) / 16 := by
  rw [interpEval_catmullRom_exact]
  ring

/-- The four-tap filter of the Bourke form (45_interpolator R365). -/
theorem interpEval_bourke_exact_half (ip : Interp ℚ) :
    interpEval exactArith .bourke ip (1 / 2) = (-ip.h0 + 5 * ip.h1 + 5 * ip.h2 - ip.h3) / 8 := by
  rw [interpEval_bourke_exact]
  ring

/-- The two filters differ by a sixteenth of `h0 + h3 - h1 - h2` (45_interpolator R365). -/
theorem interpEval_exact_half_eq_of_linear {ip : Interp ℚ} (h : ip.h0 + ip.h3 = ip.h1 + ip.h2) :
    interpEval exactArith .catmullRom ip (1 / 2) = interpEval exactArith .bourke ip (1 / 2) := by
  rw [interpEval_catmullRom_exact_half, interpEval_bourke_exact_half]
  linarith

/-- Settles O43: each form is defined by the operations of its rule in their order; in exact arithmetic it is a cubic. -/
theorem interpolatorAtHalfPhase : Obligations.InterpolatorAtHalfPhase :=
  ⟨fun _ _ _ _ _ _ => ⟨rfl, rfl⟩, fun ip =>
    ⟨interpEval_catmullRom_exact_zero ip, interpEval_catmullRom_exact_one ip, interpEval_catmullRom_exact_half ip,
      interpEval_bourke_exact_half ip, interpEval_exact_half_eq_of_linear⟩⟩

/-! ### A flat history -/

/-- On a flat history the coefficients of `mu ^ 3`, `mu ^ 2` and `mu` are 0 in both forms (45_interpolator R366). -/
theorem interpEval_exact_flat (f : InterpForm) (c mu : ℚ) :
    interpEval exactArith f { h0 := c, h1 := c, h2 := c, h3 := c } mu = c := by
  cases f with
  | catmullRom =>
    rw [interpEval_catmullRom_exact]
    ring
  | bourke =>
    rw [interpEval_bourke_exact]
    ring

/-- The example of 45_interpolator R366: a flat history whose products round, and whose cubic is then not flat. -/
theorem interpEval_binary64_flat_eq_one :
    interpEval binary64 .catmullRom
      { h0 := ⟨0x3FEFFFFFFFFFFFFF⟩, h1 := ⟨0x3FEFFFFFFFFFFFFF⟩, h2 := ⟨0x3FEFFFFFFFFFFFFF⟩, h3 := ⟨0x3FEFFFFFFFFFFFFF⟩ }
      (binary64.ratio 1 2) = binary64.int 1 := by
  decide +kernel

/-- Settles O44: exactly, a flat history leaves only the constant coefficient; in binary64 the rule's example is evaluated. -/
theorem interpolatorFlatLine : Obligations.InterpolatorFlatLine :=
  ⟨interpEval_exact_flat, interpEval_binary64_flat_eq_one⟩

end Sys2Proof.Machine

/-! SUPPORT. The decimation FIR (46_fir): the block a FIR_STEP writes and the window it reads, the buffer as the last L samples of the
stream (R386, R387), the impulse response (R388), the generated kernel (R382), and what never changes the configuration (R384). -/

namespace Sys2Proof.Machine

section

variable {α : Type} {A : Arith α} {taps m : Nat}

/-! ### The convolution sum -/

/-- `Σ_{k=0}^{len-1} H[k] · s(k)` in the rule's order, where `s(k)` is the sample `k` before the newest (46_fir R385, R387). -/
def kernelSum (A : Arith α) (len : Nat) (h : List α) (s : Nat → α) : α :=
  (List.range len).foldl (fun y k => A.add y (A.mul (h.getD k (A.int 0)) (s k))) (A.int 0)

theorem firConvolve_eq_kernelSum (A : Arith α) (len base : Nat) (h buf : List α) :
    firConvolve A len base h buf = kernelSum A len h fun k => buf.getD (base + len - 1 - k) (A.int 0) := rfl

/-- FIR_STEP convolves after the write and the advance (46_fir R386). -/
theorem firStep_snd (A : Arith α) (taps m : Nat) (h : List α) (f : Fir α) (xs : List α) :
    (firStep A taps m h f xs).2 =
      firConvolve A (taps * m) ((firStep A taps m h f xs).1.idx * m) h (firStep A taps m h f xs).1.buf := rfl

theorem convolution_eq_kernelSum (A : Arith α) (taps m : Nat) (h stream : List α) (n : Nat) :
    convolution A taps m h stream n =
      kernelSum A (taps * m) h fun k =>
        if k ≤ n * m + m - 1 then stream.getD (n * m + m - 1 - k) (A.int 0) else A.int 0 := rfl

/-- Only the `len` newest samples count. -/
theorem kernelSum_congr {len : Nat} {h : List α} {s t : Nat → α} (hst : ∀ k < len, s k = t k) :
    kernelSum A len h s = kernelSum A len h t :=
  List.foldl_ext _ _ _ fun y k hk => by rw [hst k (List.mem_range.1 hk)]

theorem kernelSum_exact (len : Nat) (h : List ℚ) (s : Nat → ℚ) :
    kernelSum exactArith len h s = ∑ k ∈ Finset.range len, h.getD k 0 * s k := by
  induction len with
  | zero => simp [kernelSum]
  | succ len ih =>
    rw [Finset.sum_range_succ, ← ih]
    simp [kernelSum, List.range_succ]

/-! ### The samples of a stream, the newest first -/

/-- The sample `k` before the newest of a stream, 0 before the first (46_fir R387). -/
def sampleBack (A : Arith α) (stream : List α) (k : Nat) : α := stream.reverse.getD k (A.int 0)

/-- Of a block just appended, the newest sample is the last. -/
theorem getElem?_eq_sampleBack_append {past xs : List α} {k : Nat} (hk : k < xs.length) :
    xs[xs.length - 1 - k]? = some (sampleBack A (past ++ xs) k) := by
  simp [sampleBack, List.getD_eq_getElem?_getD, List.getElem?_append_left, hk]

/-- The samples before an appended block are as many samples older. -/
theorem sampleBack_append {past xs : List α} {k : Nat} (hk : xs.length ≤ k) :
    sampleBack A (past ++ xs) k = sampleBack A past (k - xs.length) := by
  simp [sampleBack, List.getD_eq_getElem?_getD, List.getElem?_append_right, hk]

/-- The samples of a stream up to a point are found in the whole stream. -/
theorem sampleBack_eq_getD (past rest : List α) (k : Nat) :
    sampleBack A past k = if k < past.length then (past ++ rest).getD (past.length - 1 - k) (A.int 0) else A.int 0 := by
  split_ifs with hk
  · rw [sampleBack, List.getD_eq_getElem?_getD, List.getD_eq_getElem?_getD, List.getElem?_reverse hk,
      List.getElem?_append_left (by omega)]
  · simp [sampleBack, List.getD_eq_getElem?_getD, hk]

/-! ### The buffer -/

/-- A block is written at its place and at the mirror of its place (46_fir R385). -/
theorem firWrite_getElem?_mirrorBlock {len : Nat} {vs : List α} :
    ∀ {p j : Nat} {buf : List α}, p + vs.length ≤ len → buf.length = 2 * len → j < vs.length →
      (firWrite len p vs buf)[p + len + j]? = vs[j]? := by
  induction vs with
  | nil => intro p j buf _ _ hj; cases hj
  | cons v vs ih =>
    intro p j buf hp hl hj
    simp only [List.length_cons] at hp hj
    rw [firWrite_cons]
    cases j with
    | zero =>
      rw [firWrite_getElem?_other (by omega) (by omega), Nat.add_zero, List.getElem?_set_self (by simp; omega)]
      rfl
    | succ j =>
      rw [show p + len + (j + 1) = p + 1 + len + j by omega]
      exact ih (by omega) (by simpa using hl) (by omega)

/-- The FIR state after the stream `past`: the buffer's window from the oldest block on is the last `L` samples, the newest last,
and every sample is stored twice (46_fir R385, R386). -/
structure FirHolds (A : Arith α) (taps m : Nat) (past : List α) (f : Fir α) : Prop where
  size : f.buf.length = 2 * (taps * m)
  idx : f.idx < taps
  mirror : ∀ q < taps * m, f.buf[q]? = f.buf[q + taps * m]?
  window : ∀ k < taps * m, f.buf[f.idx * m + taps * m - 1 - k]? = some (sampleBack A past k)

/-- Construction zeroes the buffer: no sample has been fed (46_fir R380). -/
theorem firHolds_firZero (ht : 1 ≤ taps) : FirHolds A taps m [] (firZero A taps m) where
  size := by simp [firZero]
  idx := ht
  mirror q hq := by
    rw [firZero, List.getElem?_replicate_of_lt (by omega), List.getElem?_replicate_of_lt (by omega)]
  window k hk := by
    simp only [firZero, Nat.zero_mul, Nat.zero_add]
    rw [List.getElem?_replicate_of_lt (by omega)]
    rfl

section
variable {past xs : List α} {f : Fir α}

theorem FirHolds.block_le (hf : FirHolds A taps m past f) : f.idx * m + m ≤ taps * m := by
  rw [← Nat.succ_mul]
  exact Nat.mul_le_mul_right m hf.idx

/-- After the write, the window one block further on ends with the new block: it is read in the mirror copy, and the rest of the
window was not written (46_fir R385). -/
theorem FirHolds.window_firWrite (hf : FirHolds A taps m past f) (hx : xs.length = m) {k : Nat} (hk : k < taps * m) :
    (firWrite (taps * m) (f.idx * m) xs f.buf)[f.idx * m + m + taps * m - 1 - k]? = some (sampleBack A (past ++ xs) k) := by
  have hb := hf.block_le
  obtain hlt | hge := lt_or_ge k m
  · rw [show f.idx * m + m + taps * m - 1 - k = f.idx * m + taps * m + (m - 1 - k) by omega,
      firWrite_getElem?_mirrorBlock (by omega) hf.size (by omega), ← hx]
    exact getElem?_eq_sampleBack_append (by omega)
  · rw [firWrite_getElem?_other (by omega) (by omega), sampleBack_append (by omega), hx, ← hf.window (k - m) (by omega)]
    congr 1
    omega

/-- FIR_STEP appends its block to the stream the buffer holds; where the index wraps to 0, the window is read in the first copy
instead of the second (46_fir R385, R386). -/
theorem FirHolds.firStep (hf : FirHolds A taps m past f) (h : List α) (hx : xs.length = m) :
    FirHolds A taps m (past ++ xs) (Machine.firStep A taps m h f xs).1 := by
  have hb := hf.block_le
  have hmirror := firWrite_mirror (vs := xs) (by rwa [hx]) hf.size hf.mirror
  refine ⟨(firStep_length ..).trans hf.size, firStep_idx_lt A (Nat.zero_lt_of_lt hf.idx) .., hmirror, fun k hk => ?_⟩
  rw [← hf.window_firWrite hx hk]
  simp only [Machine.firStep]
  obtain hlt | heq : f.idx + 1 < taps ∨ f.idx + 1 = taps := by have := hf.idx; omega
  · rw [Nat.mod_eq_of_lt hlt, Nat.succ_mul]
  · have hlast : f.idx * m + m = taps * m := by rw [← heq, Nat.succ_mul]
    rw [heq, Nat.mod_self, hlast, hmirror _ (by omega)]
    congr 1
    omega

/-- What FIR_STEP returns weighs the newest `L` samples, its own block included (46_fir R385, R387). -/
theorem FirHolds.firStep_output (hf : FirHolds A taps m past f) (h : List α) (hx : xs.length = m) :
    (Machine.firStep A taps m h f xs).2 = kernelSum A (taps * m) h (sampleBack A (past ++ xs)) := by
  rw [firStep_snd, firConvolve_eq_kernelSum]
  refine kernelSum_congr fun k hk => ?_
  rw [List.getD_eq_getElem?_getD, (hf.firStep h hx).window k hk, Option.getD_some]

/-! ### The run -/

/-- The n-th output weighs the newest samples of the stream up to the n-th block. -/
theorem FirHolds.firRun_getElem? {h : List α} {blocks : List (List α)} (hlen : ∀ b ∈ blocks, b.length = m)
    (hf : FirHolds A taps m past f) {n : Nat} (hn : n < blocks.length) :
    (firRun A taps m h blocks f)[n]? =
      some (kernelSum A (taps * m) h (sampleBack A (past ++ (blocks.take (n + 1)).flatten))) := by
  induction blocks generalizing past f n with
  | nil => cases hn
  | cons b bs ih =>
    obtain ⟨hb, hbs⟩ := List.forall_mem_cons.1 hlen
    cases n with
    | zero => simpa [firRun] using hf.firStep_output h hb
    | succ n => simpa [firRun] using ih hbs (hf.firStep h hb) (Nat.lt_of_succ_lt_succ hn)

end

/-- The convolution sees the stream up to the block of its sample only (46_fir R387). -/
theorem convolution_append {h past rest : List α} {n : Nat} (hm : 1 ≤ m) (hp : past.length = (n + 1) * m) :
    convolution A taps m h (past ++ rest) n = kernelSum A (taps * m) h (sampleBack A past) := by
  rw [Nat.succ_mul] at hp
  refine (convolution_eq_kernelSum ..).trans (kernelSum_congr fun k _ => ?_)
  rw [sampleBack_eq_getD past rest, hp]
  exact if_congr (by omega) rfl rfl

theorem flatten_length_of_forall {blocks : List (List α)} (hlen : ∀ b ∈ blocks, b.length = m) :
    blocks.flatten.length = blocks.length * m := by
  rw [List.length_flatten, List.map_congr_left hlen]
  simp

end

/-- Settles O45: the buffer holds the newest `L` samples before and after every FIR_STEP, by induction on the blocks. -/
theorem firIsADecimatingConvolution : Obligations.FirIsADecimatingConvolution := by
  intro α A taps m h blocks n ht hm _ hlen hn
  have hpast : (blocks.take (n + 1)).flatten.length = (n + 1) * m := by
    rw [flatten_length_of_forall fun b hb => hlen b (List.mem_of_mem_take hb), List.length_take, Nat.min_eq_left hn]
  have hsplit : blocks.flatten = (blocks.take (n + 1)).flatten ++ (blocks.drop (n + 1)).flatten := by
    rw [← List.flatten_append, List.take_append_drop]
  rw [(firHolds_firZero ht).firRun_getElem? hlen hn, List.nil_append, hsplit, convolution_append hm hpast]

/-! ### The impulse response -/

/-- The stream of one impulse in the first of many blocks: 1 at its position, 0 everywhere else (46_fir R388). -/
theorem impulse_flatten_getD {m p : Nat} (hp : p < m) (k i : Nat) :
    ((List.replicate m (0 : ℚ)).set p 1 :: List.replicate k (List.replicate m 0)).flatten.getD i 0 =
      if i = p then 1 else 0 := by
  have hflat : ((List.replicate m (0 : ℚ)).set p 1 :: List.replicate k (List.replicate m 0)).flatten =
      (List.replicate (m + k * m) 0).set p 1 := by
    rw [List.flatten_cons, List.flatten_replicate_replicate, ← List.set_append_left _ _ (by simpa using hp),
      List.replicate_append_replicate]
  rw [hflat, List.getD_eq_getElem?_getD]
  obtain rfl | hne := eq_or_ne i p
  · rw [if_pos rfl, List.getElem?_set_self (by simp; omega), Option.getD_some]
  · rw [if_neg hne, List.getElem?_set_ne hne.symm, List.getElem?_replicate]
    split_ifs <;> rfl

/-- A convolution with a unit impulse picks one coefficient (46_fir R388). -/
theorem kernelSum_exact_impulse (len i : Nat) (h : List ℚ) :
    kernelSum exactArith len h (fun k => if k = i then 1 else 0) = if i < len then h.getD i 0 else 0 := by
  simp [kernelSum_exact]

/-- Settles O47: the FIR is a convolution, and in the stream of an impulse only the sample at `p` is not 0. -/
theorem firImpulseResponse : Obligations.FirImpulseResponse := by
  intro taps m p n k h ht hm hp hh hn
  have hlen : ∀ b ∈ (List.replicate m (0 : ℚ)).set p 1 :: List.replicate k (List.replicate m 0), b.length = m := by
    simp
  rw [firIsADecimatingConvolution exactArith taps m h _ n ht hm hh hlen (by simp; omega),
    convolution_eq_kernelSum, ← kernelSum_exact_impulse]
  refine congrArg some (kernelSum_congr fun j _ => ?_)
  rw [exactArith_int, Int.cast_zero, impulse_flatten_getD hp]
  rw [← ite_and]
  exact if_congr (by omega) rfl rfl

/-! ### The generated kernel -/

@[simp] theorem firDesign_length (taps m : Nat) (cutoff rate : Binary64) :
    (firDesign taps m cutoff rate).length = taps * m := by
  simp [firDesign]

/-- Each tap is its window value times its sinc value (46_fir R382). -/
theorem firDesign_getElem? {taps m n : Nat} (hn : n < taps * m) (cutoff rate : Binary64) :
    (firDesign taps m cutoff rate)[n]? =
      some (Binary64.mul (firWindow (taps * m) n) (firSinc (taps * m) (Binary64.div cutoff rate) n)) := by
  simp only [firDesign, List.getElem?_map, List.getElem?_range hn, Option.map_some, binary64_mul, binary64_div]

/-- Settles O49: a tap is its window value times its sinc value, and each is defined by the rule's operations in their order. -/
theorem generatedKernelShape : Obligations.GeneratedKernelShape := by
  intro taps m n cutoff rate hn fc d angle w twoPiFc
  have hw : firWindow (taps * m) n = w := rfl
  have hs : firSinc (taps * m) fc n =
      if d = 0 then twoPiFc
      else Binary64.div (Config.libSin (Binary64.mul twoPiFc (binary64.int d))) (binary64.int d) := rfl
  rw [firDesign_getElem? hn, hw, hs]
  exact ⟨firDesign_length taps m cutoff rate, rfl⟩

/-! ### The configuration -/

/-- `t` has the configuration of `s`, and its clock increment where that is the configuration's (44_clock_step R321, 46_fir R384). -/
def KeepsConfig (s t : State) : Prop :=
  t.cfg = s.cfg ∧
    (s.clock.step = clockStepOf binary64 s.cfg.chipFreq s.cfg.outRate s.cfg.m → t.clock.step = s.clock.step)

@[simp] theorem stepFinish_clock_step (s : State) : (stepFinish s).clock.step = s.clock.step :=
  (oversample_frame s.cfg.m s).clockStep

/-- STEP recomputes the increment from the configuration (44_clock_step R321). -/
@[simp] theorem stepBegin_clock_step (s : State) :
    (stepBegin s).1.clock.step = clockStepOf binary64 s.cfg.chipFreq s.cfg.outRate s.cfg.m := rfl

theorem exec_keepsConfig {i : Instr} {s t : State} (h : exec i s = .next t) : KeepsConfig s t := by
  refine ⟨exec_keeps_cfg h, fun hs => ?_⟩
  obtain ⟨a, d, rfl⟩ | ⟨v, rfl⟩ | ⟨r, rfl⟩ | ⟨-, -, -, rfl⟩ | ⟨-, rfl⟩ := exec_cases h
  · rfl
  · rfl
  · rfl
  · simp [hs]
  · simp [hs]

theorem step_keepsConfig {s t : State} (h : step s = .next t)
    (hno : ∀ (c : RawConfig) (r : Routine) (rest : List HostEvent), s.inputs ≠ .construct c r :: rest) :
    KeepsConfig s t := by
  obtain ⟨-, rfl⟩ | ⟨w, rest, i, -, -, he⟩ | ⟨w, rest, e, -, -, rfl⟩ | ⟨rest, -, -, rfl⟩ | ⟨c, r, rest, u, hi, -⟩ := step_cases h
  · exact ⟨rfl, fun _ => rfl⟩
  · exact exec_keepsConfig (s := { s with inputs := rest }) he
  · exact ⟨rfl, fun _ => rfl⟩
  · exact ⟨stepFinish_cfg _, fun _ => stepFinish_clock_step _⟩
  · exact absurd hi (hno c r rest)

/-- Settles O54: only the start of STEP writes the increment, with the configuration's value, and no move but a construction writes
the configuration. -/
theorem configurationNeverChanges : Obligations.ConfigurationNeverChanges :=
  ⟨fun _ _ _ => exec_keepsConfig, fun _ _ => step_keepsConfig⟩

end Sys2Proof.Machine

/-! SUPPORT. What is left of the command words and of the LFSR: encoding and decoding as inverses (30_encoding R138), the ill-formed
reads (R139), and the LFSR over any number of shifts (41_tone_noise R228). -/

namespace Sys2Proof.Machine

/-! ### Commands and their words -/

/-- A well-formed command is a write, a read of an implemented register, or STEP (30_encoding R132, R138). -/
theorem wellFormed_cases {i : Instr} (h : i.wellFormed = true) :
    (∃ (k : Fin 14) (d : Byte), i = writeInstr k d) ∨ (∃ a : RegAddr, a.toNat ≤ 13 ∧ i = .rd a) ∨ i = .step := by
  cases i with
  | wrAfine d => exact .inl ⟨0, d, rfl⟩
  | wrAcoarse d => exact .inl ⟨1, d, rfl⟩
  | wrBfine d => exact .inl ⟨2, d, rfl⟩
  | wrBcoarse d => exact .inl ⟨3, d, rfl⟩
  | wrCfine d => exact .inl ⟨4, d, rfl⟩
  | wrCcoarse d => exact .inl ⟨5, d, rfl⟩
  | wrNoise d => exact .inl ⟨6, d, rfl⟩
  | wrMixer d => exact .inl ⟨7, d, rfl⟩
  | wrAvol d => exact .inl ⟨8, d, rfl⟩
  | wrBvol d => exact .inl ⟨9, d, rfl⟩
  | wrCvol d => exact .inl ⟨10, d, rfl⟩
  | wrEfine d => exact .inl ⟨11, d, rfl⟩
  | wrEcoarse d => exact .inl ⟨12, d, rfl⟩
  | wrEshape d => exact .inl ⟨13, d, rfl⟩
  | rd a => exact .inr (.inl ⟨a, of_decide_eq_true h, rfl⟩)
  | step => exact .inr (.inr rfl)

theorem wellFormed_writeInstr (k : Fin 14) (d : Byte) : (writeInstr k d).wellFormed = true := by
  fin_cases k <;> rfl

/-- Settles O2: the encoder packs class, address and data of a command, and the decoder of that class reads them back. -/
theorem decodeOfEncodeIsIdentity : Obligations.DecodeOfEncodeIsIdentity := by
  intro i h
  obtain ⟨k, d, rfl⟩ | ⟨a, ha, rfl⟩ | rfl := wellFormed_cases h
  · rw [encode_writeInstr, decode_write]
  · exact decode_read ha
  · exact decode_step

/-- Settles O3: a word that decodes is the packed word of a write, a read or STEP, and these are what the encoder packs. -/
theorem decodedWordsAreEncodings : Obligations.DecodedWordsAreEncodings := by
  intro w i h
  obtain ⟨k, d, rfl, hd⟩ | ⟨a, ha, rfl, hd⟩ | ⟨rfl, hd⟩ | ⟨-, e, hd⟩ := decode_cases w <;> cases hd.symm.trans h
  · exact ⟨wellFormed_writeInstr k d, encode_writeInstr k d⟩
  · exact ⟨decide_eq_true ha, rfl⟩
  · exact ⟨rfl, rfl⟩

/-- Settles O6: the words of V-ENC1, run through the decoder. -/
theorem specWordsDecode : Obligations.SpecWordsDecode := by
  unfold Obligations.SpecWordsDecode
  decide

/-- Settles O14: an ill-formed read names address 14 or 15. -/
theorem readOfAnUnimplementedAddressIsRefused : Obligations.ReadOfAnUnimplementedAddressIsRefused := by
  intro s a h
  have ha : 14 ≤ a.toNat := Nat.not_le.1 (of_decide_eq_false h)
  exact execRd_of_ge ha s

/-! ### The LFSR -/

/-- Settles O24, by induction on the shifts. -/
theorem lfsrNeverReachesZero : Obligations.LfsrNeverReachesZero := by
  intro p s n h
  induction n with
  | zero => exact h
  | succ n ih =>
    rw [Function.iterate_succ_apply']
    exact lfsrNext_ne_zero p ih

/-- On the states at rest a shift loses nothing: the bits above bit 0 are found one lower, and bit 0 in the feedback, whose other
term, bit 3, is known by then (41_tone_noise R225). -/
theorem lfsrNext_injOn_atRest {pos : LfsrFbPos} {s t : BitVec 17} (hs : AtRest pos s) (ht : AtRest pos t)
    (h : lfsrNext pos s = lfsrNext pos t) : s = t := by
  have hbit (i : Nat) := congrArg (BitVec.getLsbD · i) h
  simp only [lfsrNext_getLsbD] at hbit
  have hup (i : Nat) : s.getLsbD (i + 1) = t.getLsbD (i + 1) := by
    obtain rfl | hi := eq_or_ne i (feedbackBit pos)
    · exact hs.trans ht.symm
    · simpa [hi] using hbit i
  have hfb := hbit (feedbackBit pos)
  rw [hs, ht, hup 2] at hfb
  refine BitVec.eq_of_getLsbD_eq fun i _ => ?_
  cases i with
  | zero => simpa using hfb
  | succ i => exact hup i

/-- At position 16 every state is at rest. -/
theorem atRest_pos16 (s : BitVec 17) : AtRest .pos16 s := BitVec.getLsbD_of_ge s 17 le_rfl

/-- At position 15 a set bit 16 and a feedback of 1 fall on the same bit (assumption log 14). -/
theorem not_injective_lfsrNext_pos15 : ¬Function.Injective (lfsrNext .pos15) := fun h =>
  absurd (h (show lfsrNext .pos15 0x10000 = lfsrNext .pos15 0x00001 by decide)) (by decide)

/-- Settles O25: a shift is injective on the states at rest, and there are finitely many. -/
theorem lfsrInjectivity : Obligations.LfsrInjectivity :=
  ⟨Finite.injective_iff_bijective.1 fun s t => lfsrNext_injOn_atRest (atRest_pos16 s) (atRest_pos16 t),
    not_injective_lfsrNext_pos15, fun _ _ => lfsrNext_injOn_atRest (pos := .pos15)⟩

end Sys2Proof.Machine

/-! SUPPORT. The bias filter (47_bias): in exact arithmetic its buffer, read from its index on, is the window of the last N inputs,
so that the running sum is the window's (R423) and a held input is taken away whole (R424). -/

namespace Sys2Proof.Machine

@[simp] theorem exactArith_div (a b : ℚ) : exactArith.div a b = a / b := rfl

/-! ### One BIAS_STEP -/

/-- BIAS_STEP with its index in the buffer (47_bias R422). -/
theorem biasStep_of_lt {α : Type} (A : Arith α) (n : Nat) (atten v : α) {b : Bias α} (h : b.idx < b.buf.length) :
    biasStep A n atten b v =
      let sum := A.add b.sum (A.sub v b.buf[b.idx])
      ({ buf := b.buf.set b.idx v, sum := sum, idx := (b.idx + 1) % n },
        A.mul (A.sub v (A.div sum (A.int n))) (A.div (A.int 1) atten)) := by
  rw [biasStep, List.getD_eq_getElem _ _ h]

/-- The output is the input less the new sum's mean, over the attenuation (47_bias R422). -/
theorem biasStep_exact_output (n : Nat) (atten v : ℚ) (b : Bias ℚ) :
    (biasStep exactArith n atten b v).2 = (v - (biasStep exactArith n atten b v).1.sum / n) / atten := by
  simp [biasStep, div_eq_mul_inv]

/-! ### The window of the last inputs -/

/-- An entry overwritten in a circular list is the newest of the list that starts just after it. -/
theorem rotate_set_succ {α : Type} {l : List α} {i : Nat} (h : i < l.length) (v : α) :
    (l.set i v).rotate (i + 1) = (l.rotate i).tail ++ [v] := by
  have hdrop : l.drop i = l[i] :: l.drop (i + 1) := List.drop_eq_getElem_cons h
  rw [List.rotate_eq_drop_append_take (by simpa), List.rotate_eq_drop_append_take h.le, hdrop, List.cons_append, List.tail_cons,
    List.drop_set_of_lt (Nat.lt_succ_self i), List.take_add_one, List.take_set_of_le le_rfl, List.getElem?_set_self h,
    List.append_assoc]
  rfl

/-- The last `n` inputs, the newest last, with zeros for those before construction (47_bias R423). -/
def biasWindow (n : Nat) (past : List ℚ) : List ℚ := (List.replicate n 0 ++ past).drop past.length

theorem biasWindow_append_singleton {n : Nat} (hn : 1 ≤ n) (past : List ℚ) (v : ℚ) :
    biasWindow n (past ++ [v]) = (biasWindow n past).tail ++ [v] := by
  rw [biasWindow, biasWindow, List.tail_drop, ← List.append_assoc, List.length_append,
    List.drop_append_of_le_length (by simp; omega)]
  rfl

/-- The zeros before construction add nothing. -/
theorem biasWindow_sum (n : Nat) (past : List ℚ) : (biasWindow n past).sum = (past.reverse.take n).sum := by
  rw [biasWindow, List.drop_append, List.sum_append, List.take_reverse, List.sum_reverse]
  simp

/-- The bias state after the inputs `past`: the buffer from the index on, around its end, is the window, and the running sum is its
sum (47_bias R423). -/
structure BiasHolds (n : Nat) (past : List ℚ) (b : Bias ℚ) : Prop where
  size : b.buf.length = n
  idx : b.idx < n
  sum : b.sum = b.buf.sum
  window : b.buf.rotate b.idx = biasWindow n past

theorem biasHolds_biasZero {n : Nat} (hn : 1 ≤ n) : BiasHolds n [] (biasZero exactArith n) where
  size := by simp [biasZero]
  idx := hn
  sum := by simp [biasZero]
  window := by simp [biasZero, biasWindow]

section
variable {n : Nat} {past : List ℚ} {b : Bias ℚ}

/-- The running sum is the sum of the last `n` inputs (47_bias R423). -/
theorem BiasHolds.sum_eq (h : BiasHolds n past b) : b.sum = (past.reverse.take n).sum := by
  rw [h.sum, ← biasWindow_sum, ← h.window]
  exact (List.rotate_perm b.buf b.idx).sum_eq.symm

/-- The oldest input makes room for the new one: the buffer's entry at the index is the first of the window, and the window that
starts one further on ends with the new input (47_bias R422). -/
theorem BiasHolds.biasStep (h : BiasHolds n past b) (atten v : ℚ) :
    BiasHolds n (past ++ [v]) (biasStep exactArith n atten b v).1 := by
  have hlt : b.idx < b.buf.length := h.size.symm ▸ h.idx
  refine ⟨(biasStep_length ..).trans h.size, biasStep_idx_lt exactArith (Nat.zero_lt_of_lt h.idx) .., ?_, ?_⟩
  · rw [biasStep_of_lt _ _ _ _ hlt]
    simp [h.sum, List.sum_set', hlt, add_comm, sub_eq_add_neg]
  · have hrotate : (b.buf.set b.idx v).rotate ((b.idx + 1) % n) = (b.buf.rotate b.idx).tail ++ [v] := by
      rw [← rotate_set_succ hlt, ← List.rotate_mod _ (b.idx + 1), List.length_set, h.size]
    rw [biasStep_of_lt _ _ _ _ hlt, biasWindow_append_singleton (Nat.zero_lt_of_lt h.idx), ← h.window]
    exact hrotate

/-- A run feeds its inputs one after the other. -/
theorem BiasHolds.biasRun (h : BiasHolds n past b) (atten : ℚ) (vs : List ℚ) :
    BiasHolds n (past ++ vs) (biasRun exactArith n atten vs b).1 := by
  induction vs generalizing past b with
  | nil => rwa [List.append_nil]
  | cons v vs ih =>
    rw [List.append_cons]
    exact ih (h.biasStep atten v)

end

theorem biasHolds_biasRun {n : Nat} (hn : 1 ≤ n) (atten : ℚ) (vs : List ℚ) :
    BiasHolds n vs (biasRun exactArith n atten vs (biasZero exactArith n)).1 := (biasHolds_biasZero hn).biasRun atten vs

/-- Settles O46: the operations of BIAS_STEP are those of its rule, and exactly the sum follows the window. -/
theorem biasSumIsTheWindowSum : Obligations.BiasSumIsTheWindowSum := by
  refine ⟨fun A n atten x b h => biasStep_of_lt A n atten x h, fun n atten v vs hn _ => ?_⟩
  have h := biasHolds_biasRun hn atten vs
  refine ⟨h.sum, h.sum_eq, ?_⟩
  rw [biasStep_exact_output, (h.biasStep atten v).sum_eq, List.reverse_append]
  rfl

/-- Settles O48: the window of a held input is `n` copies of it, and their mean is the input. -/
theorem biasConvergesToZero : Obligations.BiasConvergesToZero := by
  intro n k atten v vs hn ha hk
  have hwindow : (v :: (vs ++ List.replicate k v).reverse).take n = List.replicate n v := by
    rw [List.reverse_append, List.reverse_replicate, ← List.cons_append, ← List.replicate_succ,
      List.take_append_of_le_length (by simpa), List.take_replicate, Nat.min_eq_left hk]
  have hn0 : (n : ℚ) ≠ 0 := by positivity
  obtain ⟨-, -, hout⟩ := biasSumIsTheWindowSum.2 n atten v (vs ++ List.replicate k v) hn ha
  rw [hout, hwindow, List.sum_replicate, nsmul_eq_mul, mul_div_cancel_left₀ v hn0, sub_self, zero_div]

end Sys2Proof.Machine

/-! SUPPORT. STEP and its frame event (44_clock_step, 60_exceptions): a command inside the routine and FRAME_RETURN after it (R453 to
R456), what a STEP leaves unchanged, and a STEP in which no iteration ticks (70_reset R503). -/

namespace Sys2Proof.Machine

/-! ### FRAME_RETURN -/

/-- The move FRAME_RETURN inside the routine clears the flag and goes on with the STEP (60_exceptions R456). -/
theorem step_of_frameReturn {s : State} {rest : List HostEvent} (hin : s.inFrameRoutine = true)
    (h : s.inputs = .frameReturn :: rest) : step s = .next (stepFinish (frameLeave { s with inputs := rest })) := by
  simp only [step, nextMove, h, execMove, execFrameReturn, hin, if_true]

/-- With no move pending the state persists (60_exceptions R465). -/
theorem step_of_idle {s : State} (h : s.inputs = []) : step s = .next s := by
  simp only [step, nextMove, h]

/-- `s` with another frame scheduler and another last answer, which no part of the rest of STEP reads. -/
def withFrame (f : Frame) (p : Response) (s : State) : State := { s with frame := f, response := p }

section
variable (f : Frame) (p : Response)

theorem mapRegisters_withFrame (s : State) : mapRegisters (withFrame f p s) = withFrame f p (mapRegisters s) := by
  simp only [mapRegisters, withFrame]

theorem mixerTick_withFrame (s : State) :
    mixerTick (withFrame f p s) = (withFrame f p (mixerTick s).1, (mixerTick s).2) := rfl

theorem chipTick_withFrame (s : State) : chipTick (withFrame f p s) = withFrame f p (chipTick s) := by
  rw [chipTick, mapRegisters_withFrame, mixerTick_withFrame]
  rfl

theorem clockIteration_withFrame (s : State) : clockIteration (withFrame f p s) = withFrame f p (clockIteration s) := by
  obtain ⟨h, he⟩ | ⟨h, he⟩ := clockIteration_cases s <;>
    obtain ⟨h', he'⟩ | ⟨h', he'⟩ := clockIteration_cases (withFrame f p s)
  · rw [he, he']
    rfl
  · cases h.symm.trans h'
  · cases h.symm.trans h'
  · rw [he, he']
    exact chipTick_withFrame f p
      { s with clock := { s.clock with cycle := (clockAdvance binary64 s.clock.cycle s.clock.step).1 } }

theorem oversample_withFrame (k : Nat) (s : State) :
    oversample k (withFrame f p s) = (withFrame f p (oversample k s).1, (oversample k s).2) := by
  induction k generalizing s with
  | zero => rfl
  | succ k ih =>
    rw [oversample, clockIteration_withFrame, ih]
    rfl

/-- The rest of STEP takes the frame scheduler along, and overwrites the answer. -/
theorem stepFinish_withFrame (s : State) : stepFinish (withFrame f p s) = { stepFinish s with frame := f } := by
  have h := oversample_withFrame f p s.cfg.m s
  unfold stepFinish
  dsimp only
  rw [show (withFrame f p s).cfg = s.cfg from rfl, h]
  rfl

end

@[simp] theorem stepFinish_inFrameRoutine (s : State) : (stepFinish s).inFrameRoutine = s.inFrameRoutine :=
  (oversample_frame s.cfg.m s).inFrameRoutine

@[simp] theorem stepFinish_frame (s : State) : (stepFinish s).frame = s.frame := (oversample_frame s.cfg.m s).frame

@[simp] theorem stepBegin_routine (s : State) : (stepBegin s).1.frame.routine = s.frame.routine := rfl

@[simp] theorem stepFinish_inputs (s : State) : (stepFinish s).inputs = s.inputs := (oversample_frame s.cfg.m s).inputs

/-- A STEP whose event is not raised, or whose routine is the no-op, runs to its end (44_clock_step R326). -/
theorem execStep_of_no_call {s : State} (hin : s.inFrameRoutine = false)
    (h : s.frame.routine = .noop ∨
      Binary64.lt (binary64.int 1) (Binary64.add s.frame.cycle (Binary64.div s.cfg.frameFreq s.cfg.outRate)) = false) :
    execStep s = .next (stepFinish (stepBegin s).1) := by
  obtain ⟨h', -⟩ | ⟨-, hev, hr, -⟩ | ⟨-, -, he⟩ := execStep_cases s
  · cases h'.symm.trans hin
  · obtain h | h := h
    · cases h.symm.trans hr
    · have hno : (stepBegin s).2 = false :=
        congrArg Prod.snd (frameAdvance_of_not_lt (A := binary64) (rem := s.cfg.frameRemainder) h)
      cases hno.symm.trans hev
  · exact he

/-- A STEP that leaves the flag set was suspended at the call of the host's routine (60_exceptions R454). -/
theorem eq_frameEnter_of_exec_step {s t : State} (hin : s.inFrameRoutine = false) (h : exec .step s = .next t)
    (ht : t.inFrameRoutine = true) : t = frameEnter (stepBegin s).1 := by
  obtain ⟨h', -⟩ | ⟨-, -, -, he⟩ | ⟨-, -, he⟩ := execStep_cases s
  · cases h'.symm.trans hin
  · cases he.symm.trans h
    rfl
  · cases he.symm.trans h
    rw [stepFinish_inFrameRoutine] at ht
    cases ht.symm.trans hin

/-- A command inside the routine leaves the flag set, and changes at most the register file, the mark and the answer (60_exceptions
R445, R454). -/
theorem exec_in_routine {i : Instr} {s t : State} (hin : s.inFrameRoutine = true) (h : exec i s = .next t) :
    t = { s with x := t.x, refused := t.refused, response := t.response } := by
  obtain ⟨a, d, rfl⟩ | ⟨v, rfl⟩ | ⟨r, rfl⟩ | ⟨hout, -⟩ | ⟨hout, -⟩ := exec_cases h
  · rfl
  · rfl
  · rfl
  · cases hout.symm.trans hin
  · cases hout.symm.trans hin

/-- A command word inside the routine, reserved or not, does no more than a command there. -/
theorem execWord_in_routine (w : CmdWord) {s : State} (hin : s.inFrameRoutine = true) :
    ∃ t, execWord w s = .next t ∧ t = { s with x := t.x, refused := t.refused, response := t.response } := by
  obtain ⟨i, -, he⟩ | ⟨e, -, he⟩ := execWord_cases w s
  · obtain ⟨t, ht⟩ := exec_completes i s
    exact ⟨t, he.trans ht, exec_in_routine hin ht⟩
  · exact ⟨_, he, rfl⟩

/-- After a routine that only returned, the suspended STEP stands where the STEP with the no-op routine stood (60_exceptions R454,
R456). -/
theorem frameLeave_frameEnter_stepBegin {s : State} (hin : s.inFrameRoutine = false) (hr : s.frame.routine = .host)
    (rest : List HostEvent) :
    let b := (stepBegin { s with inputs := rest, frame := { s.frame with routine := .noop } }).1
    frameLeave { frameEnter (stepBegin s).1 with inputs := rest } = withFrame { b.frame with routine := .host } .frameCall b := by
  simp [frameLeave, frameEnter, respond, withFrame, stepBegin, hin, hr]

/-- FRAME_RETURN right after the call ends the STEP as the no-op routine does: the rest of STEP does not read the routine. -/
theorem step_frameEnter_stepBegin {s : State} {rest : List HostEvent} (hin : s.inFrameRoutine = false)
    (hr : s.frame.routine = .host) (hq : s.inputs = .frameReturn :: rest) :
    let u := stepFinish (stepBegin { s with inputs := rest, frame := { s.frame with routine := .noop } }).1
    step (frameEnter (stepBegin s).1) = .next { u with frame := { u.frame with routine := .host } } := by
  intro u
  rw [step_of_frameReturn (s := frameEnter (stepBegin s).1) rfl hq, frameLeave_frameEnter_stepBegin hin hr,
    stepFinish_withFrame]
  have hframe : u.frame = (stepBegin { s with inputs := rest, frame := { s.frame with routine := .noop } }).1.frame :=
    stepFinish_frame _
  rw [← hframe]

/-- Settles O39: FRAME_RETURN goes on where the no-op routine would, and any other command in the routine is a write, a read or a
refusal. -/
theorem frameReturnResumesTheStep : Obligations.FrameReturnResumesTheStep := by
  refine ⟨fun s rest hin hq => ?_, fun s t u rest hin hr hq hs ht hu => ?_, fun s w rest hin hq => ?_, fun s => step_of_idle⟩
  · exact ⟨(step_of_frameReturn hin hq).trans (congrArg _ (stepFinish_eq _)), (oversample_frame s.cfg.m _).inFrameRoutine⟩
  · have hnoop := execStep_of_no_call (s := { s with inputs := rest, frame := { s.frame with routine := .noop } }) hin (.inl rfl)
    obtain rfl := Host.Outcome.next.inj (hnoop.symm.trans hu)
    obtain rfl := eq_frameEnter_of_exec_step hin hs ht
    exact ⟨step_frameEnter_stepBegin hin hr hq, (stepFinish_inFrameRoutine _).trans hin⟩
  · obtain ⟨t, ht, hframe⟩ := execWord_in_routine w (s := { s with inputs := rest }) hin
    refine ⟨t, (step_of_command hq).trans ht, ?_, hframe⟩
    rw [hframe]
    exact hin

/-! ### What a STEP leaves unchanged -/

/-- A tick clamps the registers, which no read shows (40_register_interface R162, R178). -/
theorem readReg_chipTick (s : State) (a : Fin 14) : readReg a (chipTick s) = readReg a s := by
  rw [readReg, chipTick_x, (chipTick_frame s).cfg, ← readReg_mapRegisters, readReg, mapRegisters_cfg]

theorem readReg_clockIteration (s : State) (a : Fin 14) : readReg a (clockIteration s) = readReg a s := by
  obtain ⟨-, h⟩ | ⟨-, h⟩ := clockIteration_cases s <;> rw [h]
  · rfl
  · exact readReg_chipTick _ a

theorem readReg_stepFinish (s : State) (a : Fin 14) : readReg a (stepFinish s) = readReg a s :=
  oversample_induction (P := fun t => readReg a t = readReg a s) (fun t h => (readReg_clockIteration t a).trans h) s.cfg.m s rfl

theorem readReg_stepBegin (s : State) (a : Fin 14) : readReg a (stepBegin s).1 = readReg a s := rfl

/-- Settles O40: in its three cases a STEP clamps registers at most. -/
theorem stepKeepsWhatRegistersRead : Obligations.StepKeepsWhatRegistersRead := by
  intro s
  obtain ⟨hin, he⟩ | ⟨-, -, -, he⟩ | ⟨-, -, he⟩ := execStep_cases s
  · exact ⟨_, he, fun _ => rfl, rfl, rfl, rfl, fun h => by cases h.symm.trans hin⟩
  · exact ⟨_, he, fun _ => rfl, rfl, rfl, rfl, fun _ => rfl⟩
  · exact ⟨_, he, fun a => (readReg_stepFinish _ a).trans (readReg_stepBegin s a), stepFinish_cfg _,
      by rw [stepFinish_frame, stepBegin_routine], stepFinish_inputs _, fun _ => stepFinish_refused _⟩

/-! ### A STEP without ticks -/

/-- Iterations that do not tick advance the accumulator and repeat one pair (44_clock_step R330). -/
theorem oversample_of_no_ticks {k : Nat} {s : State} (h : (clockRun binary64 s.clock.step k s.clock.cycle).2 = 0) :
    oversample k s =
      ({ s with clock := { s.clock with cycle := (clockRun binary64 s.clock.step k s.clock.cycle).1 } },
        List.replicate k (interpSample s)) := by
  induction k generalizing s with
  | zero => rfl
  | succ k ih =>
    obtain ⟨hrest, hfirst⟩ := Nat.add_eq_zero_iff.1 h
    have hno : (clockAdvance binary64 s.clock.cycle s.clock.step).2 = false := by simpa using hfirst
    obtain ⟨-, he⟩ | ⟨ht, -⟩ := clockIteration_cases s
    · simp only [oversample, List.replicate_succ, ← interpSample_clockIteration hno]
      rw [he, ih hrest]
      rfl
    · cases ht.symm.trans hno

/-- Below one increment in all, exactly, no iteration ticks (44_clock_step R328). -/
theorem clockRun_exact_no_ticks {m : Nat} {cs : ℚ} (h0 : 0 ≤ cs) (h1 : cs * m < 1) : (clockRun exactArith cs m 0).2 = 0 := by
  obtain rfl | hm := Nat.eq_zero_or_pos m
  · rfl
  have hle : cs ≤ cs * m := le_mul_of_one_le_right h0 (by exact_mod_cast hm)
  obtain ⟨-, -, hticks⟩ := tickCountBounds cs m h0 (by linarith)
  have : ((clockRun exactArith cs m 0).2 : ℚ) < 1 := by linarith
  exact Nat.lt_one_iff.1 (by exact_mod_cast this)

/-- Settles O41: the loop leaves all but the clock as it was, and gives `M` copies of one pair to the filters. -/
theorem stepWithoutTicks : Obligations.StepWithoutTicks := by
  refine ⟨fun s hin hr hno => ?_, fun m cs => clockRun_exact_no_ticks⟩
  have hloop := oversample_of_no_ticks (s := (stepBegin s).1) (k := s.cfg.m) hno
  refine ⟨_, execStep_of_no_call hin hr, ?_⟩
  rw [stepFinish_eq, stepBegin_cfg, hloop]
  simp only [List.map_replicate]
  exact ⟨rfl, rfl, rfl, rfl, rfl, rfl, rfl, rfl, rfl⟩

end Sys2Proof.Machine

/-! SUPPORT. Construction (60_exceptions R442, R443, 70_reset R491): each check says what its rule says, the first failing one is
reported, and what an accepted record gives. -/

namespace Sys2Proof.Machine

/-! ### The checks -/

theorem firRateOf_eq (c : RawConfig) :
    firRateOf c = c.firRate.getD (Binary64.mul c.outRate (binary64.int c.m)) := rfl

theorem generated_eq_true_iff (c : RawConfig) : generated c = true ↔ c.kernel = none := Option.isNone_iff_eq_none

/-- A property of every entry of a table, by index. -/
theorem forall_mem_toList_iff {α : Type} {n : Nat} {p : α → Prop} (w : Vector α n) :
    (∀ v ∈ w.toList, p v) ↔ ∀ i : Fin n, p w[i] := by
  simp only [Vector.mem_toList_iff, Vector.forall_mem_iff_forall_getElem]
  exact ⟨fun h i => h i i.isLt, fun h i hi => h ⟨i, hi⟩⟩

/-- Check 1 fails where a number is not finite (60_exceptions R442). -/
theorem checkFails_nonfinite_iff (c : RawConfig) : checkFails c .nonfinite = true ↔ FailsWhen c .nonfinite := by
  have hkernel : (∀ v ∈ c.kernel.getD [], v.isFinite = true) ↔ ∀ h, c.kernel = some h → ∀ v ∈ h, v.isFinite = true := by
    cases c.kernel <;> simp
  have hall : checkFails c .nonfinite = true ↔ ¬∀ v ∈ numFields c, v.isFinite = true := by simp [checkFails]
  rw [hall, FailsWhen, not_iff_not]
  simp only [numFields, List.forall_mem_append, forall_mem_toList_iff, hkernel, List.forall_mem_cons, firRateOf_eq]
  tauto

/-- An entry of `ENV_CLASS` is refused where its offset or its transient is out of range (60_exceptions R442). -/
theorem envEntryValid_eq_false_iff (e : Int × Option Int) :
    envEntryValid e = false ↔ e.1 < 0 ∨ 5 < e.1 ∨ ∃ t, e.2 = some t ∧ t ≠ 0 ∧ t ≠ 31 := by
  rw [envEntryValid, Bool.and_eq_false_iff, decide_eq_false_iff_not, decide_eq_false_iff_not, not_and_or, not_le, not_le,
    or_assoc]
  cases e.2 <;> simp

/-- Check 2 fails where a parameter is outside its domain (60_exceptions R442). -/
theorem checkFails_paramDomain_iff (c : RawConfig) : checkFails c .paramDomain = true ↔ FailsWhen c .paramDomain := by
  have htable : (c.envClass.toList.any fun e => !envEntryValid e) = true ↔
      ∃ k : Fin 16, c.envClass[k].1 < 0 ∨ 5 < c.envClass[k].1 ∨ ∃ t, c.envClass[k].2 = some t ∧ t ≠ 0 ∧ t ≠ 31 := by
    rw [← not_iff_not, Bool.not_eq_true, List.any_eq_false, forall_mem_toList_iff]
    simp only [← envEntryValid_eq_false_iff, not_exists, Bool.not_eq_true']
  simp only [checkFails, FailsWhen, Bool.or_eq_true, htable, Bool.not_eq_true', decide_eq_false_iff_not, decide_eq_true_eq]
  rw [or_right_comm, not_or, not_and_or, not_le, not_le]
  simp only [or_assoc, ne_eq]

/-- Check 7 asks for an increment of at most 1 (44_clock_step R322, assumption log 11). -/
theorem checkFails_clockTooFast_iff (c : RawConfig) : checkFails c .clockTooFast = true ↔ FailsWhen c .clockTooFast := by
  rw [checkFails, FailsWhen, Bool.not_eq_true', clockStepOf, binary64_div, binary64_mul]

/-- Check 8 fails where a supplied kernel has another length (60_exceptions R442). -/
theorem checkFails_kernelLength_iff (c : RawConfig) : checkFails c .kernelLength = true ↔ FailsWhen c .kernelLength := by
  unfold checkFails FailsWhen
  cases c.kernel <;> simp

/-- Each check fails exactly when its rule says (60_exceptions R442). -/
theorem checkFails_iff (c : RawConfig) (e : ConfigError) : checkFails c e = true ↔ FailsWhen c e := by
  cases e with
  | nonfinite => exact checkFails_nonfinite_iff c
  | paramDomain => exact checkFails_paramDomain_iff c
  | clockTooFast => exact checkFails_clockTooFast_iff c
  | kernelLength => exact checkFails_kernelLength_iff c
  | rateNonpositive | genL1 | cutoffNonpositive | cutoffNyquist =>
    simp only [checkFails, FailsWhen, Bool.or_eq_true, Bool.and_eq_true, decide_eq_true_eq, generated_eq_true_iff,
      firRateOf_eq, binary64_div]
  | negativeFreq => exact Bool.or_eq_true_iff
  | tapsZero | mZero | biasNZero | attenZero => exact decide_eq_true_iff
  | dacZeroEntries => simp only [checkFails, FailsWhen, Bool.or_eq_true, decide_eq_true_eq]

/-! ### The first failing check -/

theorem mem_checkOrder (e : ConfigError) : e ∈ checkOrder := by cases e <;> decide

/-- The checks run in the order of their codes (60_exceptions R442). -/
theorem checkOrder_code : ∀ i : Fin checkOrder.length, checkOrder[i].code = i.val + 1 := by decide

/-- The check that is reported fails, and those before it, of a smaller code, do not. -/
theorem firstConfigError_eq_some_iff (c : RawConfig) (e : ConfigError) :
    firstConfigError c = some e ↔ FailsWhen c e ∧ ∀ e' : ConfigError, e'.code < e.code → ¬FailsWhen c e' := by
  obtain ⟨i, hi, rfl⟩ := List.mem_iff_getElem.1 (mem_checkOrder e)
  have hcode (j : Nat) (hj : j < checkOrder.length) : checkOrder[j].code = j + 1 := checkOrder_code ⟨j, hj⟩
  rw [firstConfigError, List.find?_eq_some_iff_getElem, checkFails_iff]
  refine and_congr_right fun _ => ⟨?_, fun h => ⟨i, hi, rfl, fun j hj => ?_⟩⟩
  · rintro ⟨k, hk, hik, hbefore⟩ e' hlt
    obtain ⟨j, hj, rfl⟩ := List.mem_iff_getElem.1 (mem_checkOrder e')
    rw [← hik, hcode, hcode] at hlt
    rw [← checkFails_iff]
    simpa using hbefore j (by omega)
  · rw [Bool.not_eq_true', ← Bool.not_eq_true, checkFails_iff]
    exact h _ (by rw [hcode, hcode]; omega)

theorem firstConfigError_eq_none_iff (c : RawConfig) : firstConfigError c = none ↔ ∀ e : ConfigError, ¬FailsWhen c e := by
  simp only [firstConfigError, List.find?_eq_none, mem_checkOrder, forall_const, ← checkFails_iff]

theorem construct_eq_error_iff {c : RawConfig} {r : Routine} {e : ConfigError} :
    construct c r = .error e ↔ firstConfigError c = some e := by
  refine ⟨fun h => ?_, fun h => construct_of_error h r⟩
  cases hf : firstConfigError c with
  | none => cases (construct_of_valid hf r).symm.trans h
  | some e' => cases (construct_of_error hf r).symm.trans h; rfl

theorem exists_construct_eq_ok_iff {c : RawConfig} {r : Routine} :
    (∃ s, construct c r = .ok s) ↔ firstConfigError c = none :=
  ⟨fun ⟨_, h⟩ => (construct_ok h).1, fun h => ⟨_, construct_of_valid h r⟩⟩

/-- The move construct is the next one (60_exceptions R470). -/
theorem step_of_construct {s : State} {c : RawConfig} {r : Routine} {rest : List HostEvent}
    (h : s.inputs = .construct c r :: rest) : step s = execConstruct c r { s with inputs := rest } := by
  simp only [step, nextMove, h, execMove]

/-- Settles O51: each check is its rule's condition, and they run in the order of their codes. -/
theorem constructionReportsTheFirstError : Obligations.ConstructionReportsTheFirstError := by
  refine fun c r => ⟨fun e => ?_, ?_, fun s rest e hq he => ?_⟩
  · rw [construct_eq_error_iff, firstConfigError_eq_some_iff]
  · rw [exists_construct_eq_ok_iff, firstConfigError_eq_none_iff]
  · rw [step_of_construct hq, execConstruct, he]

/-! ### What an accepted record gives -/

/-- Settles O52: the construction state, field by field. -/
theorem constructionState : Obligations.ConstructionState := by
  intro c r u hu
  have hmove (s : State) (rest : List HostEvent) (hq : s.inputs = .construct c r :: rest) :
      step s = .next { u with inputs := rest } := by
    rw [step_of_construct hq, execConstruct, hu]
  obtain ⟨-, rfl⟩ := construct_ok hu
  refine ⟨fun a => ?_, fun i => ⟨?_, ?_⟩, rfl, rfl, rfl, rfl, ?_, ?_, ?_, rfl, rfl, hmove⟩
  · simp [State.initial]
  · simp [State.initial]
  · simp [State.initial]
  · simp [State.initial]
  · simp [State.initial, kernelLength, fixConfig]
  · simp [State.initial, fixConfig]

/-- What passes check 2 of the parameters (60_exceptions R442). -/
theorem params_of_accepted {c : RawConfig} (h : firstConfigError c = none) :
    (c.lfsrFbPos = 15 ∨ c.lfsrFbPos = 16) ∧ (0 ≤ c.noiseMask ∧ c.noiseMask ≤ 255) ∧ c.interpForm ≠ .other ∧
      ∀ k : Fin 16, envEntryValid c.envClass[k] = true := by
  have hp := (firstConfigError_eq_none_iff c).1 h .paramDomain
  simp only [FailsWhen, ← envEntryValid_eq_false_iff, not_or, not_exists, Bool.not_eq_false] at hp
  obtain ⟨hpos, hlow, hhigh, hform, hrows⟩ := hp
  exact ⟨by tauto, ⟨not_lt.1 hlow, not_lt.1 hhigh⟩, hform, hrows⟩

/-- The row kept of an accepted entry stands for that entry (42_envelope R251). -/
theorem rowNumbers_envRowOf {e : Int × Option Int} (h : envEntryValid e = true) : rowNumbers (envRowOf e) = e := by
  simp only [envEntryValid, Bool.and_eq_true, decide_eq_true_eq] at h
  obtain ⟨o, t⟩ := e
  obtain ⟨⟨h0, h5⟩, ht⟩ := h
  dsimp only at h0 h5 ht
  have ho : o = 0 ∨ o = 1 ∨ o = 2 ∨ o = 3 ∨ o = 4 ∨ o = 5 := by omega
  obtain rfl | rfl | rfl | rfl | rfl | rfl := ho <;> obtain rfl | rfl | rfl := ht <;> rfl

theorem noiseMask_toNat {m : Int} (h : 0 ≤ m ∧ m ≤ 255) : ((BitVec.ofInt 8 m).toNat : Int) = m := by
  rw [BitVec.toNat_ofInt]
  omega

/-- The feedback position of an accepted record (41_tone_noise R226). -/
theorem fixConfig_lfsrFbPos {c : RawConfig} (h : c.lfsrFbPos = 15 ∨ c.lfsrFbPos = 16) :
    ((fixConfig c).lfsrFbPos = .pos15 ↔ c.lfsrFbPos = 15) ∧ ((fixConfig c).lfsrFbPos = .pos16 ↔ c.lfsrFbPos = 16) := by
  obtain h | h := h <;> simp [fixConfig, h]

/-- The interpolator form of an accepted record (45_interpolator R362). -/
theorem fixConfig_interpForm {c : RawConfig} (h : c.interpForm ≠ .other) :
    ((fixConfig c).interpForm = .bourke ↔ c.interpForm = .bourke) ∧
      ((fixConfig c).interpForm = .catmullRom ↔ c.interpForm = .catmullRom) := by
  unfold fixConfig
  dsimp only
  cases hf : c.interpForm with
  | catmullRom => simp
  | bourke => simp
  | other => exact absurd hf h

/-- The rate of FIR_DESIGN is the given one, or by default `OUT_RATE × M` (00_scope R7). -/
theorem buildKernel_eq (c : RawConfig) :
    buildKernel c =
      match c.kernel with
      | some h => h
      | none =>
        firDesign c.taps c.m c.firCutoff
          (match c.firRate with
            | some rate => rate
            | none => Binary64.mul c.outRate (binary64.int c.m)) := by
  rw [buildKernel, firRateOf_eq]
  cases c.kernel <;> cases c.firRate <;> rfl

/-- Settles O53: the fields with a wider type in the record are those that check 2 has brought into their domain. -/
theorem constructionFixesTheConfiguration : Obligations.ConstructionFixesTheConfiguration := by
  intro c r u hu
  obtain ⟨hc, rfl⟩ := construct_ok hu
  obtain ⟨hpos, hmask, hform, hrows⟩ := params_of_accepted hc
  obtain ⟨hpos15, hpos16⟩ := fixConfig_lfsrFbPos hpos
  obtain ⟨hbourke, hcatmull⟩ := fixConfig_interpForm hform
  refine ⟨rfl, rfl, rfl, rfl, rfl, rfl, rfl, rfl, rfl, noiseMask_toNat hmask, rfl, hpos15, hpos16, hbourke, hcatmull,
    fun k => ?_, buildKernel_eq c⟩
  have hrow : (fixConfig c).envClass[k] = envRowOf c.envClass[k] := by simp [fixConfig]
  exact (congrArg rowNumbers hrow).trans (rowNumbers_envRowOf (hrows k))

/-- Settles O55: the checks give a valid configuration, and the construction state of one meets the invariant. -/
theorem constructionMeetsTheInvariant : Obligations.ConstructionMeetsTheInvariant := by
  intro c r u hu
  obtain ⟨hc, rfl⟩ := construct_ok hu
  exact inv_initial (configValid_fixConfig hc) r

/-- The host's record for configuration T gives configuration T (95_test_vectors). -/
theorem fixConfig_standardRecord : fixConfig standardRecord = standardConfig := by decide +kernel

/-- Settles O56: the record of configuration T passes the checks. -/
theorem resetMeetsTheInvariant : Obligations.ResetMeetsTheInvariant := by
  have hc : construct standardRecord .noop = .ok State.reset := by
    rw [construct_of_valid (by decide +kernel), fixConfig_standardRecord, State.reset]
  exact ⟨hc, constructionMeetsTheInvariant _ _ _ hc⟩

end Sys2Proof.Machine

/-! SUPPORT. Rounding (00_scope R20): the rounded quotient is the nearest integer, ties to even; on the grid of a magnitude's
spacing it is the nearest datum, since the data below the grid are farther; past the bound of the largest datum it overflows. -/

namespace Sys2Proof.Binary64

/-! ### The rounded quotient is the nearest integer -/

/-- A quotient is its floor and the remainder's part. -/
theorem natCast_div_eq_add (n : Nat) {e : Nat} (he : 0 < e) : (n : ℚ) / e = (n / e : Nat) + (n % e : Nat) / e := by
  have he' : (e : ℚ) ≠ 0 := by positivity
  rw [div_eq_iff he', add_mul, div_mul_cancel₀ _ he']
  exact_mod_cast (Nat.div_add_mod' n e).symm

/-- The rounded quotient is within half of the exact one, and even where it is half away. -/
theorem abs_divNearestEven_sub_le (n : Nat) {e : Nat} (he : 0 < e) :
    |(divNearestEven n e : ℚ) - n / e| ≤ 1 / 2 ∧
      (|(divNearestEven n e : ℚ) - n / e| = 1 / 2 → divNearestEven n e % 2 = 0) := by
  have he' : (0 : ℚ) < e := by exact_mod_cast he
  have hlow : ((n % e : Nat) : ℚ) / e < 1 / 2 ↔ 2 * (n % e) < e := by
    rw [div_lt_div_iff₀ he' two_pos, one_mul, mul_comm]
    exact_mod_cast Iff.rfl
  have hhigh : 1 / 2 < ((n % e : Nat) : ℚ) / e ↔ e < 2 * (n % e) := by
    rw [div_lt_div_iff₀ two_pos he', one_mul, mul_comm _ (2 : ℚ)]
    exact_mod_cast Iff.rfl
  have hrem0 : 0 ≤ ((n % e : Nat) : ℚ) / e := by positivity
  have hrem1 : ((n % e : Nat) : ℚ) / e < 1 := by
    rw [div_lt_one he']
    exact_mod_cast Nat.mod_lt n he
  rw [natCast_div_eq_add n he]
  unfold divNearestEven
  dsimp only
  split
  · rw [Nat.cast_add_one, add_sub_add_left_eq_sub, abs_of_pos (by linarith)]
    refine ⟨?_, fun heq => ?_⟩
    · have := mt hlow.1 (by omega)
      linarith
    · have := mt hhigh.2 (by linarith)
      omega
  · rw [sub_add_cancel_left, abs_neg, abs_of_nonneg hrem0]
    refine ⟨?_, fun heq => ?_⟩
    · have := mt hhigh.1 (by omega)
      linarith
    · have := mt hlow.2 (by linarith)
      omega

/-- An integer within half of `x` is nearest to it, and another one as near means that it is half away. -/
theorem abs_sub_le_of_half {s j : Int} {x : ℚ} (hs : |(s : ℚ) - x| ≤ 1 / 2) (hj : j ≠ s) :
    |(s : ℚ) - x| ≤ |(j : ℚ) - x| ∧ (|(s : ℚ) - x| = |(j : ℚ) - x| → |(s : ℚ) - x| = 1 / 2) := by
  have hone : (1 : ℚ) ≤ |(j : ℚ) - s| := by exact_mod_cast Int.one_le_abs (sub_ne_zero.2 hj)
  have htri := abs_sub_le (j : ℚ) x s
  rw [abs_sub_comm x] at htri
  exact ⟨by linarith, fun h => by linarith⟩

/-- The rounded quotient is the nearest integer, an even one where another is as near (00_scope R20). -/
theorem divNearestEven_nearest (n j : Nat) {e : Nat} (he : 0 < e) :
    |(divNearestEven n e : ℚ) - n / e| ≤ |(j : ℚ) - n / e| ∧
      (|(divNearestEven n e : ℚ) - n / e| = |(j : ℚ) - n / e| →
        j = divNearestEven n e ∨ divNearestEven n e % 2 = 0) := by
  obtain ⟨hhalf, heven⟩ := abs_divNearestEven_sub_le n he
  obtain rfl | hj := eq_or_ne j (divNearestEven n e)
  · exact ⟨le_rfl, fun _ => .inl rfl⟩
  · obtain ⟨hle, htie⟩ := abs_sub_le_of_half (s := divNearestEven n e) (j := j) hhalf (by exact_mod_cast hj)
    exact ⟨hle, fun h => .inr (heven (htie h))⟩

/-! ### The significand and the data -/

section
variable {n d : Nat}

/-- A magnitude is below the carry of its spacing's significands. -/
theorem div_lt_spacing (hd : 0 < d) : (n : ℚ) / d < 2 ^ 53 * 2 ^ spacing (n / d) := by
  have hfloor : n / d < 2 ^ 53 * 2 ^ spacing (n / d) := by
    obtain ⟨h, hs⟩ | ⟨-, h⟩ := spacing_cases (n / d)
    · rwa [hs, pow_zero, mul_one]
    · exact h
  rw [div_lt_iff₀ (by positivity)]
  exact_mod_cast (Nat.div_lt_iff_lt_mul hd).1 hfloor

/-- A magnitude of a spacing above the least is at least the least significand of that spacing. -/
theorem spacing_le_div (hs : spacing (n / d) ≠ 0) : (2 : ℚ) ^ 52 * 2 ^ spacing (n / d) ≤ n / d := by
  obtain ⟨-, h⟩ | ⟨h, -⟩ := spacing_cases (n / d)
  · exact absurd h hs
  · exact le_trans (by exact_mod_cast h) (Nat.cast_div_le (m := n) (n := d))

/-- A magnitude in units of its spacing. -/
theorem div_eq_mul_spacing : (n : ℚ) / d = n / (d * 2 ^ spacing (n / d) : Nat) * 2 ^ spacing (n / d) := by
  rw [Nat.cast_mul, Nat.cast_pow, Nat.cast_ofNat, ← div_div, div_mul_cancel₀ _ (by positivity)]

/-- The significand is the rounding of the magnitude in units of its spacing. -/
theorem significand_nearest (hd : 0 < d) (j : Nat) :
    |(significand n d * 2 ^ spacing (n / d) : ℚ) - n / d| ≤ |(j * 2 ^ spacing (n / d) : ℚ) - n / d| ∧
      (|(significand n d * 2 ^ spacing (n / d) : ℚ) - n / d| = |(j * 2 ^ spacing (n / d) : ℚ) - n / d| →
        j = significand n d ∨ significand n d % 2 = 0) := by
  have hpow : (0 : ℚ) < 2 ^ spacing (n / d) := by positivity
  have hscale (i : Nat) : |(i * 2 ^ spacing (n / d) : ℚ) - n / d| =
      |(i : ℚ) - n / (d * 2 ^ spacing (n / d) : Nat)| * 2 ^ spacing (n / d) := by
    rw [← abs_of_pos hpow, ← abs_mul, sub_mul, abs_of_pos hpow, ← div_eq_mul_spacing]
  rw [hscale, hscale, mul_le_mul_iff_left₀ hpow, mul_left_inj' hpow.ne']
  exact divNearestEven_nearest n j (by positivity)

/-- A datum is on the grid of a spacing, or below the significands of that grid. -/
theorem mag_on_grid_or_below (c : Binary64) (k : Nat) : (∃ j, c.mag = j * 2 ^ k) ∨ c.mag < 2 ^ 52 * 2 ^ k := by
  have hfrac := c.fracField_lt
  rw [mag, pow2_eq]
  split
  · exact .inr (hfrac.trans_le (Nat.le_mul_of_pos_right _ (by positivity)))
  · obtain hle | hlt := le_or_gt k (c.expField - 1)
    · refine .inl ⟨(c.fracField + 2 ^ 52) * 2 ^ (c.expField - 1 - k), ?_⟩
      rw [mul_assoc, ← pow_add, Nat.sub_add_cancel hle]
    · refine .inr ?_
      calc (c.fracField + 2 ^ 52) * 2 ^ (c.expField - 1) < 2 ^ 53 * 2 ^ (c.expField - 1) :=
            Nat.mul_lt_mul_of_pos_right (by omega) (by positivity)
        _ = 2 ^ 52 * 2 ^ (c.expField - 1 + 1) := by ring
        _ ≤ 2 ^ 52 * 2 ^ k := Nat.mul_le_mul_left _ (Nat.pow_le_pow_right Nat.two_pos hlt)

/-- A rounded magnitude is the nearest magnitude of a datum, with an even significand where another is as near: on the grid
because the significand is the nearest, and below the grid because its least significand is nearer (00_scope R20). -/
theorem significand_nearest_mag (hd : 0 < d) (c : Binary64) :
    |(significand n d * 2 ^ spacing (n / d) : ℚ) - n / d| ≤ |(c.mag : ℚ) - n / d| ∧
      (|(significand n d * 2 ^ spacing (n / d) : ℚ) - n / d| = |(c.mag : ℚ) - n / d| →
        c.mag = significand n d * 2 ^ spacing (n / d) ∨ significand n d % 2 = 0) := by
  obtain ⟨j, hj⟩ | ⟨hbelow, hs⟩ : (∃ j, c.mag = j * 2 ^ spacing (n / d)) ∨
      c.mag < 2 ^ 52 * 2 ^ spacing (n / d) ∧ spacing (n / d) ≠ 0 := by
    obtain hs | hs := eq_or_ne (spacing (n / d)) 0
    · exact .inl ⟨c.mag, by rw [hs, pow_zero, mul_one]⟩
    · exact (mag_on_grid_or_below c _).imp_right fun h => ⟨h, hs⟩
  · obtain ⟨hle, htie⟩ := significand_nearest (n := n) hd j
    rw [hj]
    push_cast
    exact ⟨hle, fun h => (htie h).imp (fun h => by rw [h]) id⟩
  · have hleast : ((2 ^ 52 : Nat) * 2 ^ spacing (n / d) : ℚ) ≤ n / d := by exact_mod_cast spacing_le_div hs
    have hc : (c.mag : ℚ) < (2 ^ 52 : Nat) * 2 ^ spacing (n / d) := by exact_mod_cast hbelow
    have hlt : |(significand n d * 2 ^ spacing (n / d) : ℚ) - n / d| < |(c.mag : ℚ) - n / d| := by
      refine (significand_nearest hd (2 ^ 52)).1.trans_lt ?_
      rw [abs_sub_comm, abs_of_nonneg (sub_nonneg.2 hleast), abs_sub_comm, abs_of_pos (by linarith)]
      linarith
    exact ⟨hlt.le, fun h => absurd h hlt.ne⟩

/-! ### Overflow -/

/-- The significand stays below its carry exactly below the middle of the last gap, since the rounding at the middle is even. -/
theorem significand_lt_iff (hd : 0 < d) :
    significand n d < 2 ^ 53 ↔ (n : ℚ) / d < (2 ^ 53 - 1 / 2) * 2 ^ spacing (n / d) := by
  have hpow : (0 : ℚ) < 2 ^ spacing (n / d) := by positivity
  obtain ⟨hhalf, heven⟩ := abs_divNearestEven_sub_le n (e := d * 2 ^ spacing (n / d)) (by positivity)
  rw [div_eq_mul_spacing, mul_lt_mul_iff_left₀ hpow, significand]
  generalize (n : ℚ) / (d * 2 ^ spacing (n / d) : Nat) = y at hhalf heven
  generalize divNearestEven n (d * 2 ^ spacing (n / d)) = r at hhalf heven
  rw [abs_le] at hhalf
  obtain ⟨hlow, hhigh⟩ := hhalf
  constructor
  · intro h
    have hr : (r : ℚ) + 1 ≤ 2 ^ 53 := by exact_mod_cast h
    refine lt_of_le_of_ne (by linarith) fun hy => ?_
    have hodd : (r : ℚ) + 1 = 2 ^ 53 := by linarith
    have htie := heven (by rw [hy, eq_sub_of_add_eq hodd]; norm_num)
    have : r + 1 = 2 ^ 53 := by exact_mod_cast hodd
    omega
  · intro h
    have hr : (r : ℚ) < 2 ^ 53 := by linarith
    exact_mod_cast hr

/-- The rounded magnitude overflows exactly from the middle of the gap above the largest datum on (00_scope R20). -/
theorem roundBits_lt_iff (hd : 0 < d) : roundBits n d < 2047 * 2 ^ 52 ↔ (n : ℚ) / d < (2 ^ 53 - 1 / 2) * 2 ^ 2045 := by
  have hle := significand_le (n := n) hd
  have hge := le_significand (n := n) hd
  have hiff := significand_lt_iff (n := n) hd
  rw [roundBits_eq]
  obtain hk | hk | hk := lt_trichotomy (spacing (n / d)) 2045
  · refine iff_of_true (by omega) ?_
    have hpow : (2 : ℚ) ^ spacing (n / d) ≤ 2 ^ 2044 := pow_le_pow_right₀ one_le_two (by omega)
    have hx := div_lt_spacing (n := n) hd
    have hpos : (0 : ℚ) < 2 ^ 2044 := by positivity
    rw [pow_succ (2 : ℚ) 2044]
    generalize (2 : ℚ) ^ 2044 = t at hpow hpos
    linarith
  · rw [hk] at hiff ⊢
    rw [← hiff]
    omega
  · refine iff_of_false (by omega) (not_lt.2 ?_)
    have hpow : (2 : ℚ) ^ 2046 ≤ 2 ^ spacing (n / d) := pow_le_pow_right₀ one_le_two (by omega)
    have hx := spacing_le_div (n := n) (d := d) (by omega)
    have hpos : (0 : ℚ) < 2 ^ 2045 := by positivity
    rw [pow_succ (2 : ℚ) 2045] at hpow
    generalize (2 : ℚ) ^ 2045 = t at hpow hpos
    linarith

end

/-! ### Values with a sign -/

/-- `x` with the sign `neg`. -/
def signed (neg : Bool) (x : ℚ) : ℚ := if neg then -x else x

theorem toRat_eq_signed (a : Binary64) : a.toRat = signed a.sign (a.mag / 2 ^ 1074) := by
  unfold toRat units signed
  cases a.sign
  · rfl
  · simp [neg_div]

theorem abs_signed (neg : Bool) {x : ℚ} (h : 0 ≤ x) : |signed neg x| = x := by
  cases neg <;> simp [signed, h]

theorem abs_toRat (a : Binary64) : |a.toRat| = a.mag / 2 ^ 1074 := by
  rw [toRat_eq_signed, abs_signed _ (by positivity)]

theorem signed_mul_signed (p q : Bool) (x y : ℚ) : signed p x * signed q y = signed (p != q) (x * y) := by
  cases p <;> cases q <;> simp [signed]

theorem signed_div_signed (p q : Bool) (x y : ℚ) : signed p x / signed q y = signed (p != q) (x / y) := by
  cases p <;> cases q <;> simp [signed, neg_div, div_neg]

theorem signed_div (neg : Bool) (x y : ℚ) : signed neg x / y = signed neg (x / y) := by
  cases neg <;> simp [signed, neg_div]

theorem signed_lt_zero_iff (neg : Bool) {x : ℚ} (h : 0 < x) : signed neg x < 0 ↔ neg = true := by
  cases neg <;> simp [signed, h, h.le]

theorem intCast_eq_signed (z : Int) : (z : ℚ) = signed (decide (z < 0)) z.natAbs := by
  obtain h | h := lt_or_ge z 0
  · simp [signed, h, abs_of_neg]
  · simp [signed, h.not_gt, abs_of_nonneg h]

/-- Of values of one sign, `r` and `v`, the distance is that of their magnitudes, and no value is nearer to `v` than its magnitude
is to that of `v`; one as near with the same magnitude is the same value. -/
theorem nearest_of_abs {r c v : ℚ} (hsign : 0 ≤ r * v) (hzero : v = 0 → r = 0) (h : |(|r| - |v|)| ≤ |(|c| - |v|)|) :
    |r - v| ≤ |c - v| ∧ (|r - v| = |c - v| → |(|r| - |v|)| = |(|c| - |v|)| ∧ (|c| = |r| → c = r)) := by
  have hc : |(|c| - |v|)| ≤ |c - v| := abs_abs_sub_abs_le c v
  have hr : |r - v| = |(|r| - |v|)| := by
    obtain ⟨hr, hv⟩ | ⟨hr, hv⟩ := mul_nonneg_iff.1 hsign
    · rw [abs_of_nonneg hr, abs_of_nonneg hv]
    · rw [abs_of_nonpos hr, abs_of_nonpos hv, neg_sub_neg, abs_sub_comm]
  refine ⟨by linarith, fun htie => ⟨by linarith, fun habs => ?_⟩⟩
  obtain h | rfl := abs_eq_abs.1 habs
  · exact h
  have hsq := (sq_eq_sq_iff_abs_eq_abs _ _).2 htie
  have hprod : r * v = 0 := by linarith
  obtain h | h := mul_eq_zero.1 hprod
  · rw [h, neg_zero]
  · rw [hzero h, neg_zero]

/-! ### Rounding a value -/

theorem infOf_isInf (neg : Bool) : (infOf neg).isInf = true := by
  cases neg <;> decide +kernel

section
variable (neg : Bool) {n d : Nat}

theorem ofMag_isFinite (h : roundBits n d < 2047 * 2 ^ 52) : (ofMag neg n d).isFinite = true := by
  rw [ofMag_eq, min_eq_left h.le, isFinite, ofSignBits_expField neg (by omega), decide_eq_true_eq]
  omega

/-- The even data are those with an even significand, a carry included. -/
theorem ofMag_fracField_mod_two (h : roundBits n d < 2047 * 2 ^ 52) :
    (ofMag neg n d).fracField % 2 = significand n d % 2 := by
  rw [ofMag_eq, min_eq_left h.le, roundBits_eq] at *
  rw [ofSignBits_fracField neg (by omega)]
  omega

/-- Below the overflow bound a rounding gives the nearest datum (00_scope R20). -/
theorem nearestEven_ofMag (hd : 0 < d) (h : roundBits n d < 2047 * 2 ^ 52) :
    Machine.NearestEven (ofMag neg n d) (signed neg (n / d / 2 ^ 1074)) := by
  have hmag := ofMag_mag neg hd h
  have hscale (m : Nat) : |((m : ℚ) / 2 ^ 1074 - n / d / 2 ^ 1074)| = |(m : ℚ) - n / d| / 2 ^ 1074 := by
    rw [← sub_div, abs_div, abs_of_pos (a := (2 : ℚ) ^ 1074) (by positivity)]
  refine ⟨ofMag_isFinite neg h, fun c _ => ?_⟩
  obtain ⟨hle, htie⟩ := significand_nearest_mag (n := n) hd c
  have hcast : ((ofMag neg n d).mag : ℚ) = significand n d * 2 ^ spacing (n / d) := by exact_mod_cast hmag
  have hv : |signed neg (n / d / 2 ^ 1074)| = (n : ℚ) / d / 2 ^ 1074 := abs_signed neg (by positivity)
  have hsign : 0 ≤ (ofMag neg n d).toRat * signed neg (n / d / 2 ^ 1074) := by
    rw [toRat_eq_signed, ofMag_sign, signed_mul_signed, bne_self_eq_false, signed, if_neg Bool.false_ne_true]
    positivity
  have hzero (h0 : signed neg (n / d / 2 ^ 1074) = 0) : (ofMag neg n d).toRat = 0 := by
    rw [h0, abs_zero] at hv
    obtain rfl : n = 0 := by simpa [hd.ne'] using hv.symm
    exact toRat_of_mag_eq_zero (ofMag_zero_mag neg d)
  have hp : (0 : ℚ) < 2 ^ 1074 := by positivity
  obtain ⟨hdist, heq⟩ := nearest_of_abs (c := c.toRat) hsign hzero (by
    rw [abs_toRat, abs_toRat, hv, hscale, hscale, hcast]
    exact div_le_div_of_nonneg_right hle hp.le)
  refine ⟨hdist, fun hcd => ?_⟩
  obtain ⟨habs, hsame⟩ := heq hcd
  rw [abs_toRat, abs_toRat, hv, hscale, hscale, hcast, div_left_inj' hp.ne'] at habs
  obtain hm | heven := htie habs
  · exact .inl (hsame (by rw [abs_toRat, abs_toRat, hm, hmag]))
  · exact .inr ((ofMag_fracField_mod_two neg h).trans heven)

/-- The rounding of a magnitude under a sign (00_scope R20, assumption log 15). -/
theorem rounds_ofMag (hd : 0 < d) {v : ℚ} (hv : v = signed neg (n / d / 2 ^ 1074)) : Machine.Rounds (ofMag neg n d) v := by
  have habs : |v| = n / d / 2 ^ 1074 := by rw [hv, abs_signed neg (by positivity)]
  have hbound : |v| < 2 ^ 1024 - 2 ^ 970 ↔ roundBits n d < 2047 * 2 ^ 52 := by
    have hscale : ((2 : ℚ) ^ 1024 - 2 ^ 970) * 2 ^ 1074 = (2 ^ 53 - 1 / 2) * 2 ^ 2045 := by
      have h1 : (2 : ℚ) ^ 1024 * 2 ^ 1074 = 2 ^ 53 * 2 ^ 2045 := by rw [← pow_add, ← pow_add]
      have h2 : (2 : ℚ) ^ 970 * 2 ^ 1074 * 2 = 2 ^ 2045 := by rw [← pow_add, ← pow_succ]
      generalize (2 : ℚ) ^ 1024 = a, (2 : ℚ) ^ 970 = b, (2 : ℚ) ^ 1074 = p, (2 : ℚ) ^ 2045 = c at h1 h2 ⊢
      linarith
    rw [habs, roundBits_lt_iff hd, div_lt_iff₀ (by positivity), hscale]
  refine ⟨fun h => ?_, fun h => ?_⟩
  · rw [hv]
    exact nearestEven_ofMag neg hd (hbound.1 h)
  · have hinf : ofMag neg n d = infOf neg := if_neg (mt hbound.2 (not_lt.2 h))
    have hpos : (0 : ℚ) < n / d / 2 ^ 1074 := by
      rw [← habs]
      exact lt_of_lt_of_le (sub_pos.2 (pow_lt_pow_right₀ one_lt_two (by omega))) h
    rw [hinf, hv]
    exact ⟨infOf_isInf neg, by simp only [infOf_sign, signed_lt_zero_iff neg hpos, Bool.decide_eq_true]⟩

end

theorem zeroOf_eq_ofMag (s : Bool) : zeroOf s = ofMag s 0 1 := by
  cases s <;> decide +kernel

theorem neg_toRat (a : Binary64) : a.neg.toRat = -a.toRat := by
  rw [toRat, neg_units, Int.cast_neg, neg_div, toRat]

theorem rounds_ratio (n : Int) {d : Nat} (hd : 0 < d) : Machine.Rounds (ratio n d) (n / d) := by
  rw [ratio]
  refine rounds_ofMag _ hd ?_
  rw [intCast_eq_signed n, signed_div, pow2_eq, Nat.cast_mul, Nat.cast_pow, Nat.cast_ofNat, div_right_comm,
    mul_div_cancel_right₀ _ (by positivity)]

section
variable {a b : Binary64} (ha : a.isFinite = true) (hb : b.isFinite = true)
include ha hb

theorem rounds_add : Machine.Rounds (add a b) (a.toRat + b.toRat) := by
  have hv : a.toRat + b.toRat = ((a.units + b.units : Int) : ℚ) / 2 ^ 1074 := by
    rw [toRat, toRat, Int.cast_add, add_div]
  rw [add_of_isFinite ha hb, hv]
  split
  · rename_i hz
    rw [hz, zeroOf_eq_ofMag]
    exact rounds_ofMag _ Nat.one_pos (by cases a.sign && b.sign <;> simp [signed])
  · refine rounds_ofMag _ Nat.one_pos ?_
    rw [intCast_eq_signed, signed_div, Nat.cast_one, div_one]

theorem rounds_sub : Machine.Rounds (sub a b) (a.toRat - b.toRat) := by
  rw [sub, sub_eq_add_neg, ← neg_toRat]
  exact rounds_add ha (by rwa [neg_isFinite])

theorem rounds_mul : Machine.Rounds (mul a b) (a.toRat * b.toRat) := by
  rw [mul_of_isFinite ha hb]
  refine rounds_ofMag _ (by rw [pow2_eq]; positivity) ?_
  rw [toRat_eq_signed, toRat_eq_signed, signed_mul_signed, pow2_eq, Nat.cast_mul, Nat.cast_pow, Nat.cast_ofNat,
    div_mul_div_comm, div_div]

theorem rounds_div (h : b.toRat ≠ 0) : Machine.Rounds (div a b) (a.toRat / b.toRat) := by
  have hmag : b.mag ≠ 0 := mt toRat_of_mag_eq_zero h
  rw [div_of_isFinite ha hb hmag]
  refine rounds_ofMag _ (Nat.pos_of_ne_zero hmag) ?_
  rw [toRat_eq_signed, toRat_eq_signed, signed_div_signed, pow2_eq, Nat.cast_mul, Nat.cast_pow, Nat.cast_ofNat,
    div_div_div_cancel_right₀ (by positivity), div_right_comm, mul_div_cancel_right₀ _ (by positivity)]

theorem lt_iff_toRat_lt : lt a b = true ↔ a.toRat < b.toRat := by
  rw [lt_eq_true_iff, toRat, toRat, div_lt_div_iff_of_pos_right (by positivity), Int.cast_lt]
  simp [not_special_of_isFinite ha, not_special_of_isFinite hb]

end

end Sys2Proof.Binary64

namespace Sys2Proof.Machine

/-- Settles O50: each operation is one rounding of its exact result, and a rounding gives the nearest datum. -/
theorem operationsRoundToNearestEven : Obligations.OperationsRoundToNearestEven :=
  ⟨fun _ _ ha hb => ⟨Binary64.rounds_add ha hb, Binary64.rounds_sub ha hb, Binary64.rounds_mul ha hb,
    Binary64.rounds_div ha hb, Binary64.lt_iff_toRat_lt ha hb⟩, fun n _ => Binary64.rounds_ratio n⟩

end Sys2Proof.Machine
